-- ==== Sys2Proof/Word.lean ====
section
/-! DEFINITION. The cell types of the CORE and the closed sets its selectors range over
(spec/10_state.md R20 to R22, R32; spec/30_encoding.md R82 to R84). -/

namespace Sys2Proof

/-- The contents of an 8-bit cell (R8, R20). -/
abbrev Byte := BitVec 8

/-- The contents of a 16-bit cell or of a pair view (R8, R20, R30). -/
abbrev Word := BitVec 16

/-- The flags record F: four independent booleans, any combination legal (R22).
`n` is the subtract flag and never the sign of a result (R13). -/
structure Flags where
  /-- zero -/
  z : Bool
  /-- subtract -/
  n : Bool
  /-- half_carry -/
  h : Bool
  /-- carry -/
  c : Bool
  deriving DecidableEq, Repr

/-- The four flags by name, for the single-flag accessors of R41. -/
inductive FlagName where
  | z | n | h | c
  deriving DecidableEq, Repr

/-- The 8-bit register selector: exactly the seven raw cells; F is excluded (R27, R82). -/
inductive Reg8 where
  | a | b | c | d | e | h | l
  deriving DecidableEq, Repr

/-- The pair views whose halves are both raw cells (R30); AF has its own accessors (R44). -/
inductive Pair where
  | bc | de | hl
  deriving DecidableEq, Repr

/-- The 16-bit selector of `ADD HL,rr`: three pair views and the SP cell, never AF or PC (R83). -/
inductive Reg16 where
  | bc | de | hl | sp
  deriving DecidableEq, Repr

/-- A bit index: exactly eight inhabitants, 0 the least significant bit (R84). -/
abbrev BitIndex := Fin 8

end Sys2Proof
end

