-- ==== Sys2Proof/Config.lean ====
section
/-! DEFINITION. What an implementation fixes and the source leaves open: the four reset parameters of
spec/00_scope.md R9. The fifth row of R9, the byte encoding, is decided by the spec and stands in
Sys2Proof/Decode.lean. The model has no free value: the spec leaves no result undefined (R252). -/

namespace Sys2Proof

/-- `RESET_PC`, `RESET_SP`, `RESET_R8` (one field per cell) and `RESET_F` of R9, R241 and R242.
The machine is defined for every value of this record (`Machine.stepWith`). -/
structure ResetParams where
  /-- `RESET_PC` -/
  pc : Word
  /-- `RESET_SP` -/
  sp : Word
  /-- `RESET_R8(A)` -/
  a : Byte
  /-- `RESET_R8(B)` -/
  b : Byte
  /-- `RESET_R8(C)` -/
  c : Byte
  /-- `RESET_R8(D)` -/
  d : Byte
  /-- `RESET_R8(E)` -/
  e : Byte
  /-- `RESET_R8(H)` -/
  h : Byte
  /-- `RESET_R8(L)` -/
  l : Byte
  /-- `RESET_F` -/
  f : Flags
  deriving DecidableEq, Repr

end Sys2Proof
end

