-- ==== Sys2Proof/Syntax.lean ====
section
/-! DEFINITION. The instruction value: one constructor per tag of spec/30_encoding.md R81, which is
one per row of spec/opcode_table.json, carrying exactly the selectors that tag takes (R80). -/

namespace Sys2Proof

/-- An instruction value (R80, R81): 31 tags, 307 values. No constructor carries an operand value. -/
inductive Instr where
  /-- `ADD r` (R110) -/
  | add (r : Reg8)
  /-- `ADC r` (R111) -/
  | adc (r : Reg8)
  /-- `SUB r` (R112) -/
  | sub (r : Reg8)
  /-- `SBC r` (R113) -/
  | sbc (r : Reg8)
  /-- `AND r` (R114) -/
  | and (r : Reg8)
  /-- `XOR r` (R116) -/
  | xor (r : Reg8)
  /-- `OR r` (R115) -/
  | or (r : Reg8)
  /-- `CP r` (R117) -/
  | cp (r : Reg8)
  /-- `INC r` (R130) -/
  | inc (r : Reg8)
  /-- `DEC r` (R131) -/
  | dec (r : Reg8)
  /-- `ADD HL,rr` (R140) -/
  | addHl (rr : Reg16)
  /-- `CPL` (R150) -/
  | cpl
  /-- `SCF` (R151) -/
  | scf
  /-- `CCF` (R152) -/
  | ccf
  /-- `RLCA` (R180) -/
  | rlca
  /-- `RRCA` (R181) -/
  | rrca
  /-- `RLA` (R182) -/
  | rla
  /-- `RRA` (R183) -/
  | rra
  /-- `NOP` (R200) -/
  | nop
  /-- `HALT` (R201) -/
  | halt
  /-- `RLC r` (R160) -/
  | rlc (r : Reg8)
  /-- `RRC r` (R161) -/
  | rrc (r : Reg8)
  /-- `RL r` (R162) -/
  | rl (r : Reg8)
  /-- `RR r` (R163) -/
  | rr (r : Reg8)
  /-- `SLA r` (R164) -/
  | sla (r : Reg8)
  /-- `SRA r` (R165) -/
  | sra (r : Reg8)
  /-- `SWAP r` (R167) -/
  | swap (r : Reg8)
  /-- `SRL r` (R166) -/
  | srl (r : Reg8)
  /-- `BIT b,r` (R190) -/
  | bit (b : BitIndex) (r : Reg8)
  /-- `RES b,r` (R192) -/
  | res (b : BitIndex) (r : Reg8)
  /-- `SET b,r` (R191) -/
  | set (b : BitIndex) (r : Reg8)
  deriving DecidableEq, Repr

end Sys2Proof
end

