-- ==== Sys2Proof/WellFormed.lean ====
section
/-! DEFINITION. Which terms are well formed. The selector types are closed, so no instruction value is
ill formed (spec/30_encoding.md R82 to R84, spec/93_implementation_defined.md U13); what can be ill
formed is a byte sequence offered as one encoded instruction (R85, R87) and a choice of reset
parameters (spec/70_reset_and_hazards.md R241). -/

namespace Sys2Proof

/-- An instruction's selectors are inside their sets. The only selector with a numeric range is the
bit index, 0 to 7 (R84); its type already enforces the bound, so the check never fails. -/
def Instr.wf : Instr → Bool
  | .bit b _ | .res b _ | .set b _ => decide (b.val < 8)
  | .add _ | .adc _ | .sub _ | .sbc _ | .and _ | .xor _ | .or _ | .cp _ => true
  | .inc _ | .dec _ | .addHl _ => true
  | .cpl | .scf | .ccf | .rlca | .rrca | .rla | .rra | .nop | .halt => true
  | .rlc _ | .rrc _ | .rl _ | .rr _ | .sla _ | .sra _ | .swap _ | .srl _ => true

/-- R85: a sequence of bytes has the length of one encoded instruction: one byte that is not the page
byte 0xCB, or 0xCB and exactly one byte after it. -/
def encodingLengthOk : List Byte → Bool
  | [o] => o != 0xCB#8
  | [o, _] => o == 0xCB#8
  | _ => false

/-- R87: the code 110 of a 3-bit register field names no register. -/
def regFieldOk (code : BitVec 3) : Bool :=
  code != 6#3

/-- R241: the one constraint on the reset parameters is that `RESET_SP` is not zero. -/
def ResetParams.wf (p : ResetParams) : Bool :=
  p.sp != 0#16

end Sys2Proof
end

