-- ==== Sys2Proof/Decode.lean ====
section
/-! DEFINITION. The reference byte encoding (spec/30_encoding.md R85 to R92): the decoder, total on every
byte sequence, and after it the encoder. The byte values are the spec's own choice, D1, and are
unverified against the hardware (notes/assumptions/7.md). -/

namespace Sys2Proof

/-- The page byte that opens the extended page (R85). -/
def pageByte : Byte := 0xCB#8

/-- The number of bytes of an encoded instruction, known from its first byte alone (R85). -/
def encodedLength (first : Byte) : Nat :=
  if first = pageByte then 2 else 1

/-- The register a 3-bit field names; 110 names none (R87). -/
def Reg8.ofCode (code : BitVec 3) : Option Reg8 :=
  match code.toNat with
  | 0 => some .b
  | 1 => some .c
  | 2 => some .d
  | 3 => some .e
  | 4 => some .h
  | 5 => some .l
  | 7 => some .a
  | _ => none

/-- The 16-bit register a 2-bit field names (R87). -/
def Reg16.ofCode (code : BitVec 2) : Reg16 :=
  match code.toNat with
  | 0 => .bc
  | 1 => .de
  | 2 => .hl
  | _ => .sp

/-- The bit index a 3-bit field holds, as an unsigned number (R87). -/
def BitIndex.ofCode (code : BitVec 3) : BitIndex :=
  code.toFin

/-- The accumulator operation that bits 5:3 of format B-ALU select (R86). -/
def aluOf (op : BitVec 3) (r : Reg8) : Instr :=
  match op.toNat with
  | 0 => .add r
  | 1 => .adc r
  | 2 => .sub r
  | 3 => .sbc r
  | 4 => .and r
  | 5 => .xor r
  | 6 => .or r
  | _ => .cp r

/-- The rotate, shift or swap that bits 5:3 of format X-ROT select (R86). -/
def rotOf (op : BitVec 3) (r : Reg8) : Instr :=
  match op.toNat with
  | 0 => .rlc r
  | 1 => .rrc r
  | 2 => .rl r
  | 3 => .rr r
  | 4 => .sla r
  | 5 => .sra r
  | 6 => .swap r
  | _ => .srl r

/-- The nine opcodes of format B-FIXED (R86). -/
def fixedOf (o : Byte) : Option Instr :=
  match o.toNat with
  | 0x00 => some .nop
  | 0x07 => some .rlca
  | 0x0F => some .rrca
  | 0x17 => some .rla
  | 0x1F => some .rra
  | 0x2F => some .cpl
  | 0x37 => some .scf
  | 0x3F => some .ccf
  | 0x76 => some .halt
  | _ => none

/-- The base page: formats B-FIXED, B-ALU, B-ADDHL and B-INCDEC, which no opcode shares (R86, R91). -/
def decodeBase (o : Byte) : Option Instr :=
  match fixedOf o with
  | some i => some i
  | none =>
    if o.extractLsb' 6 2 = 0b10#2 then
      (Reg8.ofCode (o.extractLsb' 0 3)).map (aluOf (o.extractLsb' 3 3))
    else if o.extractLsb' 6 2 = 0b00#2 ∧ o.extractLsb' 0 4 = 0b1001#4 then
      some (.addHl (Reg16.ofCode (o.extractLsb' 4 2)))
    else if o.extractLsb' 6 2 = 0b00#2 ∧ o.extractLsb' 0 3 = 0b100#3 then
      (Reg8.ofCode (o.extractLsb' 3 3)).map .inc
    else if o.extractLsb' 6 2 = 0b00#2 ∧ o.extractLsb' 0 3 = 0b101#3 then
      (Reg8.ofCode (o.extractLsb' 3 3)).map .dec
    else none

/-- The extended page, on the byte after 0xCB: formats X-ROT and X-BIT (R86). -/
def decodeExtended (o : Byte) : Option Instr :=
  (Reg8.ofCode (o.extractLsb' 0 3)).map fun r =>
    match (o.extractLsb' 6 2).toNat with
    | 0 => rotOf (o.extractLsb' 3 3) r
    | 1 => .bit (BitIndex.ofCode (o.extractLsb' 3 3)) r
    | 2 => .res (BitIndex.ofCode (o.extractLsb' 3 3)) r
    | _ => .set (BitIndex.ofCode (o.extractLsb' 3 3)) r

/-- The decoder's answer (R88). -/
inductive Decoded where
  /-- one instruction value, and how many bytes it takes -/
  | modelled (i : Instr) (len : Nat)
  /-- no instruction value; `info` is the offending input, the opcode bytes (R211) -/
  | unmodelled (info : List Byte)
  deriving DecidableEq, Repr

/-- The answer for one page: the opcode bytes that were read, and the instruction if there is one. -/
def Decoded.ofOption (opcode : List Byte) : Option Instr → Decoded
  | some i => .modelled i opcode.length
  | none => .unmodelled opcode

/-- The reference decoder (R88), reading the instruction at the head of a byte sequence. A sequence
that ends before the opcode byte is no encoded instruction (R85) and is unmodelled
(notes/assumptions/8.md). -/
def decode : List Byte → Decoded
  | [] => .unmodelled []
  | o0 :: more =>
    if o0 = pageByte then
      match more with
      | [] => .unmodelled [o0]
      | o1 :: _ => .ofOption [o0, o1] (decodeExtended o1)
    else .ofOption [o0] (decodeBase o0)

/-! ## The encoder -/

/-- The 3-bit code of a register (R87). -/
def Reg8.code : Reg8 → BitVec 3
  | .b => 0b000#3
  | .c => 0b001#3
  | .d => 0b010#3
  | .e => 0b011#3
  | .h => 0b100#3
  | .l => 0b101#3
  | .a => 0b111#3

/-- The 2-bit code of a 16-bit register (R87). -/
def Reg16.code : Reg16 → BitVec 2
  | .bc => 0b00#2
  | .de => 0b01#2
  | .hl => 0b10#2
  | .sp => 0b11#2

/-- The 3-bit code of a bit index (R87). -/
def BitIndex.code (b : BitIndex) : BitVec 3 :=
  BitVec.ofFin b

/-- A one-byte opcode of layout `2 3 3` bits (R86). -/
def opcode233 (hi : BitVec 2) (mid lo : BitVec 3) : Byte :=
  hi ++ mid ++ lo

/-- The bytes of an instruction value in stream order (R85, R86, R91). -/
def encode : Instr → List Byte
  | .add r => [opcode233 0b10#2 0b000#3 r.code]
  | .adc r => [opcode233 0b10#2 0b001#3 r.code]
  | .sub r => [opcode233 0b10#2 0b010#3 r.code]
  | .sbc r => [opcode233 0b10#2 0b011#3 r.code]
  | .and r => [opcode233 0b10#2 0b100#3 r.code]
  | .xor r => [opcode233 0b10#2 0b101#3 r.code]
  | .or r => [opcode233 0b10#2 0b110#3 r.code]
  | .cp r => [opcode233 0b10#2 0b111#3 r.code]
  | .inc r => [opcode233 0b00#2 r.code 0b100#3]
  | .dec r => [opcode233 0b00#2 r.code 0b101#3]
  | .addHl rr => [opcode233 0b00#2 (rr.code ++ 0b1#1) 0b001#3]
  | .cpl => [0x2F#8]
  | .scf => [0x37#8]
  | .ccf => [0x3F#8]
  | .rlca => [0x07#8]
  | .rrca => [0x0F#8]
  | .rla => [0x17#8]
  | .rra => [0x1F#8]
  | .nop => [0x00#8]
  | .halt => [0x76#8]
  | .rlc r => [pageByte, opcode233 0b00#2 0b000#3 r.code]
  | .rrc r => [pageByte, opcode233 0b00#2 0b001#3 r.code]
  | .rl r => [pageByte, opcode233 0b00#2 0b010#3 r.code]
  | .rr r => [pageByte, opcode233 0b00#2 0b011#3 r.code]
  | .sla r => [pageByte, opcode233 0b00#2 0b100#3 r.code]
  | .sra r => [pageByte, opcode233 0b00#2 0b101#3 r.code]
  | .swap r => [pageByte, opcode233 0b00#2 0b110#3 r.code]
  | .srl r => [pageByte, opcode233 0b00#2 0b111#3 r.code]
  | .bit b r => [pageByte, opcode233 0b01#2 b.code r.code]
  | .res b r => [pageByte, opcode233 0b10#2 b.code r.code]
  | .set b r => [pageByte, opcode233 0b11#2 b.code r.code]

/-! ## Words as spec/opcode_table.json numbers them -/

/-- The bytes, in stream order, of a table word of `nbits` bits, filled up with zero bytes to the
longest instruction. The table's own words fix the order: a one-byte row is the opcode byte; in a
two-byte row "the prefix byte 0xCB in bits 15:8 and the opcode byte in bits 7:0 (stream order, first
byte first)" (notes/assumptions/12.md). -/
def tableBytes (nbits w : Nat) : List Byte :=
  if nbits ≤ 8 then [BitVec.ofNat 8 w, 0#8]
  else [BitVec.ofNat 8 (w >>> 8), BitVec.ofNat 8 w]

/-- What the decoder reads from a table word. -/
def decodeTableWord (nbits w : Nat) : Option Instr :=
  match decode (tableBytes nbits w) with
  | .modelled i _ => some i
  | .unmodelled _ => none

end Sys2Proof
end

