-- ==== Sys2Proof/Machine/Flags.lean ====
section
/-! DEFINITION. The flags codec (spec/10_state.md R23, R24) and every flag computation of the families
(R26). Sums and comparisons are on unbounded integers, as R11 says. -/

namespace Sys2Proof.Machine

/-- R23: the packed flag byte, bits 3 to 0 always zero. -/
def flagsToByte (f : Flags) : Byte :=
  (if f.z then 0x80#8 else 0#8) ||| (if f.n then 0x40#8 else 0#8) |||
    (if f.h then 0x20#8 else 0#8) ||| (if f.c then 0x10#8 else 0#8)

/-- R24: the record a byte decodes to; bits 3 to 0 are ignored. -/
def flagsOfByte (b : Byte) : Flags where
  z := b.getLsbD 7
  n := b.getLsbD 6
  h := b.getLsbD 5
  c := b.getLsbD 4

/-- R41: the projection of one flag. -/
def flagGet (f : Flags) : FlagName → Bool
  | .z => f.z
  | .n => f.n
  | .h => f.h
  | .c => f.c

/-- R41: the record with one flag replaced. -/
def flagSet (f : Flags) (x : FlagName) (v : Bool) : Flags :=
  match x with
  | .z => { f with z := v }
  | .n => { f with n := v }
  | .h => { f with h := v }
  | .c => { f with c := v }

/-- R11: the carry flag as a number. -/
def carryIn (f : Flags) : Nat :=
  if f.c then 1 else 0

/-- `v & 0xF` as an integer (R10, R118). -/
def lowNibble (v : Byte) : Nat :=
  (v &&& 0x0F#8).toNat

/-- `v & 0xFFF` as an integer (R140). -/
def low12 (v : Word) : Nat :=
  (v &&& 0x0FFF#16).toNat

/-- R110, R111: the flags of `a + v + k`; carry and half-carry are overflows of sums (R119). -/
def addFlags (a v : Byte) (k : Nat) : Flags where
  z := decide ((a.toNat + v.toNat + k) % 256 = 0)
  n := false
  h := decide (lowNibble a + lowNibble v + k > 0xF)
  c := decide (a.toNat + v.toNat + k > 255)

/-- R112, R113: the flags of `a - v - k`; carry and half-carry are borrow comparisons whose right sides
are not reduced (R119). -/
def subFlags (a v : Byte) (k : Nat) : Flags where
  z := decide (((a.toNat : Int) - v.toNat - k) % 256 = 0)
  n := true
  h := decide (lowNibble a < lowNibble v + k)
  c := decide (a.toNat < v.toNat + k)

/-- R117: the flags of a comparison. -/
def compareFlags (a v : Byte) : Flags where
  z := a == v
  n := true
  h := decide (lowNibble a < lowNibble v)
  c := decide (a.toNat < v.toNat)

/-- R114 to R116: Z from the result, N and C cleared, H as the operation forces it. -/
def logicFlags (res : Byte) (half : Bool) : Flags where
  z := res == 0#8
  n := false
  h := half
  c := false

/-- R130: Z, N and H of an increment of the old value `v` to `res`; C unaffected. -/
def incFlags (old : Flags) (v res : Byte) : Flags :=
  { old with z := res == 0#8, n := false, h := lowNibble v == 0xF }

/-- R131: Z, N and H of a decrement of the old value `v` to `res`; C unaffected. -/
def decFlags (old : Flags) (v res : Byte) : Flags :=
  { old with z := res == 0#8, n := true, h := lowNibble v == 0x0 }

/-- R140: N cleared, H the carry out of bit 11, C the carry out of bit 15; Z unaffected. -/
def addHlFlags (old : Flags) (hl v : Word) : Flags :=
  { old with
    n := false
    h := decide (low12 hl + low12 v > 0xFFF)
    c := decide (hl.toNat + v.toNat > 65535) }

/-- R150: N and H set; Z and C unaffected. -/
def cplFlags (old : Flags) : Flags :=
  { old with n := true, h := true }

/-- R151, R152: N and H cleared and C replaced; Z unaffected. -/
def carryOpFlags (old : Flags) (carry : Bool) : Flags :=
  { old with n := false, h := false, c := carry }

/-- R168: the flags of a generic rotate, shift or swap. Z from the result and N false are the spec's own
reading of its source, D6 (notes/assumptions/10.md). -/
def rotateFlags (res : Byte) (departing : Bool) : Flags where
  z := res == 0#8
  n := false
  h := false
  c := departing

/-- R184, R185: the flags of the accumulator-only rotates, Z forced false whatever the result. -/
def rotateAFlags (departing : Bool) : Flags where
  z := false
  n := false
  h := false
  c := departing

/-- R190: Z the complement of the tested bit, N cleared, H set; C unaffected. -/
def bitFlags (old : Flags) (tested : Bool) : Flags :=
  { old with z := !tested, n := false, h := true }

end Sys2Proof.Machine
end

