-- ==== Sys2Proof/Machine/ResetValues.lean ====
section
/-! DEFINITION. The reset parameters this instance of the CORE runs with. The source gives no number
(spec/91_not_in_source.md N2); these are the customary values the spec quotes after R243 as a reference
instantiation. They are the model's choice (notes/assumptions/1.md): no statement rests on one. -/

namespace Sys2Proof.Machine

/-- PRESUMED, unsafe: PC = 0x0100, SP = 0xFFFE, AF = 0x01B0, BC = 0x0013, DE = 0x00D8, HL = 0x014D. -/
def resetParams : ResetParams where
  pc := 0x0100#16
  sp := 0xFFFE#16
  a := 0x01#8
  f := { z := true, n := false, h := true, c := true }
  b := 0x00#8
  c := 0x13#8
  d := 0x00#8
  e := 0xD8#8
  h := 0x01#8
  l := 0x4D#8

end Sys2Proof.Machine
end

