-- ==== Sys2Proof/Machine/State.lean ====
section
/-! DEFINITION. The state of the CORE (spec/10_state.md R20, R36) and, beside it, the two pieces of its
interface that the model must hold as data: the transactions its environment has issued and not yet
seen performed, and the answer to the last one. No memory: the CORE has none (spec/20_memory.md R60). -/

namespace Sys2Proof.Machine

/-- Why the CORE raises its fault. -/
inductive Fault where
  /-- R210, R212: an input that is none of the 307 instruction values reached the engine; `info` is the
  offending input (R211). Raised by `State.raiseFault`, which `harnessTurn` calls. Reported inside the
  next state, whose latch is set: no step of the model ends in it. Safe. -/
  | unmodelledInstruction (info : List Byte)
  deriving DecidableEq, Repr

/-- Why the CORE turns a transaction away. -/
inductive Refusal where
  /-- An instruction the model gives no meaning yet. No arm of `exec` answers it. Safe. -/
  | notModelled (mnemonic : String)
  /-- R213: the fault latch is set, so an `execute` or a write accessor has no effect and the fault is
  reported again. Raised by `State.refuse`. Reported inside the next state: no step of the model ends in
  it. Safe. -/
  | faultLatched
  deriving DecidableEq, Repr

/-- The register-file accessors (R40 to R47). -/
inductive Access where
  /-- R40 -/
  | get8 (r : Reg8)
  /-- R40 -/
  | set8 (r : Reg8) (v : Byte)
  /-- R41 -/
  | getFlags
  /-- R41 -/
  | setFlags (f : Flags)
  /-- R41, a single-flag form -/
  | getFlag (x : FlagName)
  /-- R41, a single-flag form -/
  | setFlag (x : FlagName) (b : Bool)
  /-- R42 -/
  | getFByte
  /-- R42 -/
  | setFByte (b : Byte)
  /-- R43 -/
  | get16 (p : Pair)
  /-- R43 -/
  | set16 (p : Pair) (v : Word)
  /-- R44 -/
  | getAf
  /-- R44 -/
  | setAf (v : Word)
  /-- R45 -/
  | getPc
  /-- R45 -/
  | setPc (v : Word)
  /-- R46 -/
  | getSp
  /-- R46 -/
  | setSp (v : Word)
  deriving DecidableEq, Repr

/-- One transaction of the environment (spec/00_scope.md R4, R14). -/
inductive Transaction where
  /-- R240 -/
  | reset
  /-- R80: `execute(i)` for an instruction value -/
  | execute (i : Instr)
  /-- R47: one accessor call -/
  | access (q : Access)
  /-- R88: a byte stream that the reference harness works through, one instruction a step; it holds at
  least one byte -/
  | stream (first : Byte) (more : List Byte)
  deriving DecidableEq, Repr

/-- What the CORE answered to the last transaction performed (notes/assumptions/3.md). -/
inductive Report where
  /-- performed, nothing to return -/
  | done
  /-- the value of an 8-bit read accessor (R40, R42) -/
  | byte (v : Byte)
  /-- the value of a 16-bit read accessor (R43 to R46) -/
  | word (v : Word)
  /-- the flags record (R41) -/
  | flags (f : Flags)
  /-- one flag (R41) -/
  | flag (b : Bool)
  /-- the transaction raised the fault (R210 to R212) -/
  | faulted (why : Fault)
  /-- the transaction had no effect because the latch is set (R213) -/
  | refused (why : Refusal)
  deriving DecidableEq, Repr

/-- The ten cells of R20, the fault latch of R36, and the model's own two interface fields. -/
structure State where
  /-- R28: raw cell A, the accumulator -/
  a : Byte
  /-- R28: raw cell B -/
  b : Byte
  /-- R28: raw cell C, not the carry flag -/
  c : Byte
  /-- R28: raw cell D -/
  d : Byte
  /-- R28: raw cell E -/
  e : Byte
  /-- R28: raw cell H, not the half-carry flag -/
  h : Byte
  /-- R28: raw cell L -/
  l : Byte
  /-- R22: the flags record F, the stored form -/
  f : Flags
  /-- R33: the program counter -/
  pc : Word
  /-- R35: the stack pointer -/
  sp : Word
  /-- R36: the sticky fault latch -/
  fault : Bool
  /-- The model's own field: the environment's transactions not yet performed, the next one first
  (notes/assumptions/2.md). -/
  pending : List Transaction
  /-- The model's own field: the answer to the last transaction (notes/assumptions/3.md). -/
  report : Report
  deriving DecidableEq, Repr

/-- R240 to R242: the whole state after `reset` with given parameters, depending on nothing earlier.
Nothing is pending and nothing has been answered but the reset itself. -/
def State.resetWith (p : ResetParams) : State where
  a := p.a
  b := p.b
  c := p.c
  d := p.d
  e := p.e
  h := p.h
  l := p.l
  f := p.f
  pc := p.pc
  sp := p.sp
  fault := false
  pending := []
  report := .done

/-- The state after reset of this instance; its numbers are those of notes/assumptions/1.md. -/
def State.reset : State :=
  State.resetWith resetParams

end Sys2Proof.Machine
end

