-- ==== Sys2Proof/Machine/Ops.lean ====
section
/-! DEFINITION. The named operations over the registers (spec/10_state.md R28 to R35, R40 to R46), the
answer of a transaction, raising the fault (spec/60_exceptions.md R210 to R213) and the one way out of
it (spec/70_reset_and_hazards.md R240). -/

namespace Sys2Proof.Machine

/-! ## Bytes and words -/

/-- `v[15:8]` (R10). -/
def hiByte (v : Word) : Byte :=
  v.extractLsb' 8 8

/-- `v[7:0]` (R10). -/
def loByte (v : Word) : Byte :=
  v.extractLsb' 0 8

/-- `hi :: lo`, the high byte first (R30, R64). -/
def joinBytes (hi lo : Byte) : Word :=
  hi ++ lo

/-! ## Cells -/

/-- `x[r]` (R12, R40). -/
def State.get8 (s : State) : Reg8 → Byte
  | .a => s.a
  | .b => s.b
  | .c => s.c
  | .d => s.d
  | .e => s.e
  | .h => s.h
  | .l => s.l

/-- `x[r] <- v` (R12, R28, R40): no other cell and no flag changes. -/
def State.set8 (s : State) (r : Reg8) (v : Byte) : State :=
  match r with
  | .a => { s with a := v }
  | .b => { s with b := v }
  | .c => { s with c := v }
  | .d => { s with d := v }
  | .e => { s with e := v }
  | .h => { s with h := v }
  | .l => { s with l := v }

/-- `F <- f` (R41). -/
def State.setFlags (s : State) (f : Flags) : State :=
  { s with f := f }

/-- `pc <- v` (R45). -/
def State.setPc (s : State) (v : Word) : State :=
  { s with pc := v }

/-- `sp <- v` (R46). -/
def State.setSp (s : State) (v : Word) : State :=
  { s with sp := v }

/-! ## Pair views: computed, never stored (R30 to R32) -/

/-- The cell of the high byte of a pair. -/
def pairHi : Pair → Reg8
  | .bc => .b
  | .de => .d
  | .hl => .h

/-- The cell of the low byte of a pair. -/
def pairLo : Pair → Reg8
  | .bc => .c
  | .de => .e
  | .hl => .l

/-- `xx[p]` for BC, DE, HL (R30, R43). -/
def State.getPair (s : State) (p : Pair) : Word :=
  joinBytes (s.get8 (pairHi p)) (s.get8 (pairLo p))

/-- `xx[p] <- v` for BC, DE, HL (R30, R43). -/
def State.setPair (s : State) (p : Pair) (v : Word) : State :=
  (s.set8 (pairHi p) (hiByte v)).set8 (pairLo p) (loByte v)

/-- `xx[AF]` (R31, R44): bits 3 to 0 always zero. -/
def State.getAf (s : State) : Word :=
  joinBytes s.a (flagsToByte s.f)

/-- `xx[AF] <- v` (R31, R44): the low nibble is dropped. -/
def State.setAf (s : State) (v : Word) : State :=
  (s.set8 .a (hiByte v)).setFlags (flagsOfByte (loByte v))

/-! ## Transactions, the fault and its end -/

/-- The state with an answer to its transaction. -/
def State.answer (s : State) (r : Report) : State :=
  { s with report := r }

/-- R213: a transaction on a faulted CORE has no effect and the fault is reported again. -/
def State.refuse (s : State) : State :=
  s.answer (.refused .faultLatched)

/-- R211, `raise Fault(info)`: the latch is set and nothing else of the CORE changes; `info` goes into
the report and into no architectural cell. This is the CORE's only exception (R215) and it transfers
control nowhere (R218). -/
def State.raiseFault (s : State) (info : List Byte) : State :=
  { s with fault := true }.answer (.faulted (.unmodelledInstruction info))

/-- R240: `reset` replaces every cell and clears the latch; it is the only way out of the fault (R219).
What the environment still has pending is not state of the CORE and stays. -/
def State.resetBy (s : State) (p : ResetParams) : State :=
  { State.resetWith p with pending := s.pending }

/-- The gate every `execute` and every write accessor goes through: with the latch clear the transaction
takes effect, the state `t`, always successfully (R215); with it set, R213. -/
def State.transact (s t : State) : Host.Outcome State Fault Refusal :=
  if s.fault then .next s.refuse else .next t

end Sys2Proof.Machine
end

