-- ==== Sys2Proof/Machine/Accessors.lean ====
section
/-! DEFINITION. The register-file accessors as transactions (spec/10_state.md R40 to R47): a read answers
and changes no cell, also on a faulted CORE; a write goes through the gate (spec/60_exceptions.md
R213). -/

namespace Sys2Proof.Machine

/-- Perform one accessor call. -/
def access (q : Access) (s : State) : Host.Outcome State Fault Refusal :=
  match q with
  | .get8 r => .next (s.answer (.byte (s.get8 r)))
  | .set8 r v => s.transact (s.set8 r v)
  | .getFlags => .next (s.answer (.flags s.f))
  | .setFlags f => s.transact (s.setFlags f)
  | .getFlag x => .next (s.answer (.flag (flagGet s.f x)))
  | .setFlag x v => s.transact (s.setFlags (flagSet s.f x v))
  | .getFByte => .next (s.answer (.byte (flagsToByte s.f)))
  | .setFByte v => s.transact (s.setFlags (flagsOfByte v))
  | .get16 p => .next (s.answer (.word (s.getPair p)))
  | .set16 p v => s.transact (s.setPair p v)
  | .getAf => .next (s.answer (.word s.getAf))
  | .setAf v => s.transact (s.setAf v)
  | .getPc => .next (s.answer (.word s.pc))
  | .setPc v => s.transact (s.setPc v)
  | .getSp => .next (s.answer (.word s.sp))
  | .setSp v => s.transact (s.setSp v)

/-- The accessors that read (R40 to R46); the others write. -/
def accessReads : Access → Bool
  | .get8 _ | .getFlags | .getFlag _ | .getFByte | .get16 _ | .getAf | .getPc | .getSp => true
  | .set8 _ _ | .setFlags _ | .setFlag _ _ | .setFByte _ | .set16 _ _ | .setAf _ | .setPc _
  | .setSp _ => false

end Sys2Proof.Machine
end

