-- ==== Sys2Proof/Machine/Operands.lean ====
section
/-! DEFINITION. The operand forms of the instruction set (spec/30_encoding.md R82 to R84, R89). There is
no immediate and no memory operand. An 8-bit operand is `State.get8` (R82) and the accumulator is
`State.get8 .a`. -/

namespace Sys2Proof.Machine

/-- `xx[rr]` for the 16-bit selector (R83, R140): three pair views, or the SP cell. -/
def State.get16 (s : State) : Reg16 → Word
  | .bc => s.getPair .bc
  | .de => s.getPair .de
  | .hl => s.getPair .hl
  | .sp => s.sp

/-- `v[b]` (R12, R84). -/
def bitOf (v : Byte) (b : BitIndex) : Bool :=
  v.getLsbD b.val

/-- `1 << b` in a byte (R191, R192). -/
def bitMask (b : BitIndex) : Byte :=
  1#8 <<< b.val

/-- A single bit as the byte 0 or 1 (R11, R12). -/
def bitByte (x : Bool) : Byte :=
  if x then 1#8 else 0#8

end Sys2Proof.Machine
end

