-- ==== Sys2Proof/Machine/AccFlag.lean ====
section
/-! DEFINITION. Accumulator complement and carry-flag operations: CPL SCF CCF
(spec/43_acc_flag_ops.md R150 to R153). -/

namespace Sys2Proof.Machine

/-- `CPL` (R150). -/
def execCpl (s : State) : Host.Outcome State Fault Refusal :=
  s.transact ((s.set8 .a (s.a ^^^ 0xFF#8)).setFlags (cplFlags s.f))

/-- `SCF` (R151). -/
def execScf (s : State) : Host.Outcome State Fault Refusal :=
  s.transact (s.setFlags (carryOpFlags s.f true))

/-- `CCF` (R152): H is cleared, not loaded with the old carry. -/
def execCcf (s : State) : Host.Outcome State Fault Refusal :=
  s.transact (s.setFlags (carryOpFlags s.f (!s.f.c)))

end Sys2Proof.Machine
end

