-- ==== Sys2Proof/Machine/AddHl.lean ====
section
/-! DEFINITION. 16-bit add to HL: ADD HL,rr (spec/42_add_hl.md R140 to R142). -/

namespace Sys2Proof.Machine

/-- `(hl + v) mod 65536` (R140, R141). -/
def addHlResult (hl v : Word) : Word :=
  BitVec.ofNat 16 (hl.toNat + v.toNat)

/-- `ADD HL,rr` (R140): both operands are read before HL is written; SP is read, never written. -/
def execAddHl (rr : Reg16) (s : State) : Host.Outcome State Fault Refusal :=
  s.transact ((s.setPair .hl (addHlResult (s.getPair .hl) (s.get16 rr))).setFlags
    (addHlFlags s.f (s.getPair .hl) (s.get16 rr)))

end Sys2Proof.Machine
end

