-- ==== Sys2Proof/Machine/Alu8.lean ====
section
/-! DEFINITION. 8-bit accumulator arithmetic and logic: ADD ADC SUB SBC AND OR XOR CP
(spec/40_alu8.md R110 to R121). Both operands and the carry are those of the state before (R118). -/

namespace Sys2Proof.Machine

/-- `(a + v + k) mod 256` (R110, R111). -/
def addResult (a v : Byte) (k : Nat) : Byte :=
  BitVec.ofNat 8 (a.toNat + v.toNat + k)

/-- `(a - v - k) mod 256` (R112, R113). -/
def subResult (a v : Byte) (k : Nat) : Byte :=
  BitVec.ofInt 8 ((a.toNat : Int) - v.toNat - k)

/-- Write a result to the accumulator and all four flags. -/
def State.setAccumulator (s : State) (res : Byte) (f : Flags) : State :=
  (s.set8 .a res).setFlags f

/-- `ADD r` (R110). -/
def execAdd (r : Reg8) (s : State) : Host.Outcome State Fault Refusal :=
  s.transact (s.setAccumulator (addResult s.a (s.get8 r) 0) (addFlags s.a (s.get8 r) 0))

/-- `ADC r` (R111). -/
def execAdc (r : Reg8) (s : State) : Host.Outcome State Fault Refusal :=
  s.transact (s.setAccumulator (addResult s.a (s.get8 r) (carryIn s.f))
    (addFlags s.a (s.get8 r) (carryIn s.f)))

/-- `SUB r` (R112). -/
def execSub (r : Reg8) (s : State) : Host.Outcome State Fault Refusal :=
  s.transact (s.setAccumulator (subResult s.a (s.get8 r) 0) (subFlags s.a (s.get8 r) 0))

/-- `SBC r` (R113). -/
def execSbc (r : Reg8) (s : State) : Host.Outcome State Fault Refusal :=
  s.transact (s.setAccumulator (subResult s.a (s.get8 r) (carryIn s.f))
    (subFlags s.a (s.get8 r) (carryIn s.f)))

/-- `AND r` (R114): H is set. -/
def execAnd (r : Reg8) (s : State) : Host.Outcome State Fault Refusal :=
  s.transact (s.setAccumulator (s.a &&& s.get8 r) (logicFlags (s.a &&& s.get8 r) true))

/-- `XOR r` (R116). -/
def execXor (r : Reg8) (s : State) : Host.Outcome State Fault Refusal :=
  s.transact (s.setAccumulator (s.a ^^^ s.get8 r) (logicFlags (s.a ^^^ s.get8 r) false))

/-- `OR r` (R115). -/
def execOr (r : Reg8) (s : State) : Host.Outcome State Fault Refusal :=
  s.transact (s.setAccumulator (s.a ||| s.get8 r) (logicFlags (s.a ||| s.get8 r) false))

/-- `CP r` (R117): the difference is discarded, A is not written. -/
def execCp (r : Reg8) (s : State) : Host.Outcome State Fault Refusal :=
  s.transact (s.setFlags (compareFlags s.a (s.get8 r)))

end Sys2Proof.Machine
end

