-- ==== Sys2Proof/Machine/BitOps.lean ====
section
/-! DEFINITION. Bit test, set and reset: BIT SET RES (spec/46_bit_ops.md R190 to R194). -/

namespace Sys2Proof.Machine

/-- `BIT b,r` (R190): no cell is written. -/
def execBit (b : BitIndex) (r : Reg8) (s : State) : Host.Outcome State Fault Refusal :=
  s.transact (s.setFlags (bitFlags s.f (bitOf (s.get8 r) b)))

/-- `SET b,r` (R191): no flag is written. -/
def execSet (b : BitIndex) (r : Reg8) (s : State) : Host.Outcome State Fault Refusal :=
  s.transact (s.set8 r (s.get8 r ||| bitMask b))

/-- `RES b,r` (R192): no flag is written. -/
def execRes (b : BitIndex) (r : Reg8) (s : State) : Host.Outcome State Fault Refusal :=
  s.transact (s.set8 r (s.get8 r &&& (0xFF#8 ^^^ bitMask b)))

end Sys2Proof.Machine
end

