-- ==== Sys2Proof/Machine/IncDec.lean ====
section
/-! DEFINITION. 8-bit increment and decrement: INC DEC (spec/41_incdec.md R130 to R132). -/

namespace Sys2Proof.Machine

/-- `(v + 1) mod 256` (R130). -/
def incResult (v : Byte) : Byte :=
  v + 1#8

/-- `(v - 1) mod 256` (R131). -/
def decResult (v : Byte) : Byte :=
  v - 1#8

/-- `INC r` (R130): C is neither read nor written (R132). -/
def execInc (r : Reg8) (s : State) : Host.Outcome State Fault Refusal :=
  s.transact ((s.set8 r (incResult (s.get8 r))).setFlags
    (incFlags s.f (s.get8 r) (incResult (s.get8 r))))

/-- `DEC r` (R131): C is neither read nor written (R132). -/
def execDec (r : Reg8) (s : State) : Host.Outcome State Fault Refusal :=
  s.transact ((s.set8 r (decResult (s.get8 r))).setFlags
    (decFlags s.f (s.get8 r) (decResult (s.get8 r))))

end Sys2Proof.Machine
end

