-- ==== Sys2Proof/Machine/NopHalt.lean ====
section
/-! DEFINITION. NOP and HALT (spec/47_nop_halt.md R200, R201): inside the CORE both do nothing. -/

namespace Sys2Proof.Machine

/-- `NOP` (R200): the identity. -/
def execNop (s : State) : Host.Outcome State Fault Refusal :=
  s.transact s

/-- `HALT` (R201): the identity on the CORE; suspension belongs to the environment
(notes/assumptions/11.md). -/
def execHalt (s : State) : Host.Outcome State Fault Refusal :=
  s.transact s

end Sys2Proof.Machine
end

