-- ==== Sys2Proof/Machine/Shifts.lean ====
section
/-! DEFINITION. The bit movements that the generic rotates and shifts (spec/44_rotate_shift.md) and the
accumulator-only rotates (spec/45_rotate_a.md R184, "the same bit operations") share: results only, no
flag. -/

namespace Sys2Proof.Machine

/-- Left by one place, `low` entering bit 0 (R160, R162, R164). -/
def shiftLeftIn (v : Byte) (low : Bool) : Byte :=
  (v <<< 1) ||| bitByte low

/-- Right by one place, `high` entering bit 7 (R161, R163, R165, R166). -/
def shiftRightIn (v : Byte) (high : Bool) : Byte :=
  (v >>> 1) ||| (bitByte high <<< 7)

/-- The bit that leaves on the left, bit 7. -/
def leftOut (v : Byte) : Bool :=
  v.getLsbD 7

/-- The bit that leaves on the right, bit 0. -/
def rightOut (v : Byte) : Bool :=
  v.getLsbD 0

/-- The nibbles exchanged (R167). -/
def swapNibbles (v : Byte) : Byte :=
  ((v &&& 0x0F#8) <<< 4) ||| (v >>> 4)

end Sys2Proof.Machine
end

