-- ==== Sys2Proof/Machine/RotateA.lean ====
section
/-! DEFINITION. Accumulator-only rotates: RLCA RRCA RLA RRA (spec/45_rotate_a.md R180 to R186). They move
the bits as the generic forms do and force Z, N and H false (R184); C is recomputed (R185). -/

namespace Sys2Proof.Machine

/-- Write a moved value back to A, with Z, N and H forced false (R184). -/
def State.setRotatedA (s : State) (res : Byte) (departing : Bool) : State :=
  (s.set8 .a res).setFlags (rotateAFlags departing)

/-- `RLCA` (R180). -/
def execRlca (s : State) : Host.Outcome State Fault Refusal :=
  s.transact (s.setRotatedA (shiftLeftIn s.a (leftOut s.a)) (leftOut s.a))

/-- `RRCA` (R181). -/
def execRrca (s : State) : Host.Outcome State Fault Refusal :=
  s.transact (s.setRotatedA (shiftRightIn s.a (rightOut s.a)) (rightOut s.a))

/-- `RLA` (R182). -/
def execRla (s : State) : Host.Outcome State Fault Refusal :=
  s.transact (s.setRotatedA (shiftLeftIn s.a s.f.c) (leftOut s.a))

/-- `RRA` (R183). -/
def execRra (s : State) : Host.Outcome State Fault Refusal :=
  s.transact (s.setRotatedA (shiftRightIn s.a s.f.c) (rightOut s.a))

end Sys2Proof.Machine
end

