-- ==== Sys2Proof/Machine/RotateShift.lean ====
section
/-! DEFINITION. Generic rotates, shifts and swap: RLC RRC RL RR SLA SRA SRL SWAP
(spec/44_rotate_shift.md R160 to R170). -/

namespace Sys2Proof.Machine

/-- Write a moved value back to its register and all four flags (R168, R169). -/
def State.setRotated (s : State) (r : Reg8) (res : Byte) (departing : Bool) : State :=
  (s.set8 r res).setFlags (rotateFlags res departing)

/-- `RLC r` (R160). -/
def execRlc (r : Reg8) (s : State) : Host.Outcome State Fault Refusal :=
  s.transact (s.setRotated r (shiftLeftIn (s.get8 r) (leftOut (s.get8 r))) (leftOut (s.get8 r)))

/-- `RRC r` (R161). -/
def execRrc (r : Reg8) (s : State) : Host.Outcome State Fault Refusal :=
  s.transact (s.setRotated r (shiftRightIn (s.get8 r) (rightOut (s.get8 r))) (rightOut (s.get8 r)))

/-- `RL r` (R162): the old carry enters bit 0. -/
def execRl (r : Reg8) (s : State) : Host.Outcome State Fault Refusal :=
  s.transact (s.setRotated r (shiftLeftIn (s.get8 r) s.f.c) (leftOut (s.get8 r)))

/-- `RR r` (R163): the old carry enters bit 7. -/
def execRr (r : Reg8) (s : State) : Host.Outcome State Fault Refusal :=
  s.transact (s.setRotated r (shiftRightIn (s.get8 r) s.f.c) (rightOut (s.get8 r)))

/-- `SLA r` (R164). -/
def execSla (r : Reg8) (s : State) : Host.Outcome State Fault Refusal :=
  s.transact (s.setRotated r (shiftLeftIn (s.get8 r) false) (leftOut (s.get8 r)))

/-- `SRA r` (R165): bit 7 is kept. -/
def execSra (r : Reg8) (s : State) : Host.Outcome State Fault Refusal :=
  s.transact (s.setRotated r (shiftRightIn (s.get8 r) (leftOut (s.get8 r))) (rightOut (s.get8 r)))

/-- `SRL r` (R166). -/
def execSrl (r : Reg8) (s : State) : Host.Outcome State Fault Refusal :=
  s.transact (s.setRotated r (shiftRightIn (s.get8 r) false) (rightOut (s.get8 r)))

/-- `SWAP r` (R167): C is cleared. -/
def execSwap (r : Reg8) (s : State) : Host.Outcome State Fault Refusal :=
  s.transact (s.setRotated r (swapNibbles (s.get8 r)) false)

end Sys2Proof.Machine
end

