-- ==== Sys2Proof/Machine/Dispatch.lean ====
section
/-! DEFINITION. The dispatch over the instruction's tag (spec/30_encoding.md R80). -/

namespace Sys2Proof.Machine

/-- The transaction `execute(i)` (R80): total, every tag of R81 covered. -/
def exec (i : Instr) (s : State) : Host.Outcome State Fault Refusal :=
  match i with
  | .add r => Sys2Proof.Machine.execAdd r s
  | .adc r => Sys2Proof.Machine.execAdc r s
  | .sub r => Sys2Proof.Machine.execSub r s
  | .sbc r => Sys2Proof.Machine.execSbc r s
  | .and r => Sys2Proof.Machine.execAnd r s
  | .xor r => Sys2Proof.Machine.execXor r s
  | .or r => Sys2Proof.Machine.execOr r s
  | .cp r => Sys2Proof.Machine.execCp r s
  | .inc r => Sys2Proof.Machine.execInc r s
  | .dec r => Sys2Proof.Machine.execDec r s
  | .addHl rr => Sys2Proof.Machine.execAddHl rr s
  | .cpl => Sys2Proof.Machine.execCpl s
  | .scf => Sys2Proof.Machine.execScf s
  | .ccf => Sys2Proof.Machine.execCcf s
  | .rlca => Sys2Proof.Machine.execRlca s
  | .rrca => Sys2Proof.Machine.execRrca s
  | .rla => Sys2Proof.Machine.execRla s
  | .rra => Sys2Proof.Machine.execRra s
  | .nop => Sys2Proof.Machine.execNop s
  | .halt => Sys2Proof.Machine.execHalt s
  | .rlc r => Sys2Proof.Machine.execRlc r s
  | .rrc r => Sys2Proof.Machine.execRrc r s
  | .rl r => Sys2Proof.Machine.execRl r s
  | .rr r => Sys2Proof.Machine.execRr r s
  | .sla r => Sys2Proof.Machine.execSla r s
  | .sra r => Sys2Proof.Machine.execSra r s
  | .swap r => Sys2Proof.Machine.execSwap r s
  | .srl r => Sys2Proof.Machine.execSrl r s
  | .bit b r => Sys2Proof.Machine.execBit b r s
  | .res b r => Sys2Proof.Machine.execRes b r s
  | .set b r => Sys2Proof.Machine.execSet b r s

end Sys2Proof.Machine
end

