-- ==== Sys2Proof/Machine/Harness.lean ====
section
/-! DEFINITION. What the environment does to the CORE (spec/00_scope.md R4, R5, R14): its transactions,
performed one at a time and in order, and the reference harness that drives it from bytes
(spec/30_encoding.md R88, spec/10_state.md R34). -/

namespace Sys2Proof.Machine

/-- The environment's transactions with what is left of a byte stream in front; nothing left, nothing
in front. -/
def queueStream (bytes : List Byte) (rest : List Transaction) : List Transaction :=
  match bytes with
  | [] => rest
  | first :: more => .stream first more :: rest

/-- The state as a transaction finds it: taken from the front of the environment's list, not yet
answered otherwise than as performed. -/
def State.take (s : State) (rest : List Transaction) : State :=
  { s with pending := rest, report := .done }

/-- One turn of the reference harness (R88) on a byte stream. Modelled: PC is advanced past the bytes of
the instruction, modulo 65536, before it is executed (R34). Unmodelled: PC is not written, the fault is
raised and the run of this stream ends. On a faulted CORE the attempt is refused and the run ends
(R213, notes/assumptions/6.md). -/
def harnessTurn (bytes : List Byte) (rest : List Transaction) (s : State) :
    Host.Outcome State Fault Refusal :=
  if s.fault then .next (s.take rest).refuse
  else
    match decode bytes with
    | .modelled i len =>
      exec i ((s.take (queueStream (bytes.drop len) rest)).setPc (s.pc + BitVec.ofNat 16 len))
    | .unmodelled info => .next ((s.take rest).raiseFault info)

/-- Perform the next transaction of the environment, given the instance's reset parameters (R9). With
none pending the CORE does nothing (R4). -/
def performNext (p : ResetParams) (s : State) : Host.Outcome State Fault Refusal :=
  match s.pending with
  | [] => .next s
  | .reset :: rest => .next ((s.take rest).resetBy p)
  | .execute i :: rest => exec i (s.take rest)
  | .access q :: rest => access q (s.take rest)
  | .stream first more :: rest => harnessTurn (first :: more) rest s

/-- The bytes of the one instruction a table word holds: its length is known from its first byte (R85). -/
def wordBytes (nbits w : Nat) : List Byte :=
  match tableBytes nbits w with
  | [] => []
  | first :: more => (first :: more).take (encodedLength first)

/-- The state with the one instruction of a table word as what the environment presents next. -/
def State.present (s : State) (nbits w : Nat) : State :=
  { s with pending := queueStream (wordBytes nbits w) s.pending }

end Sys2Proof.Machine
end

