-- ==== Sys2Proof/Machine/Step.lean ====
section
/-! DEFINITION. One step: one transaction of the environment (spec/00_scope.md R4, R5). -/

namespace Sys2Proof.Machine

/-- One step for given reset parameters, the model's arguments of R9. -/
def stepWith (p : ResetParams) (s : State) : Host.Outcome State Fault Refusal :=
  performNext p s

/-- One step of this instance (notes/assumptions/1.md). -/
def step (s : State) : Host.Outcome State Fault Refusal :=
  stepWith resetParams s

/-- `s` with the instruction of a table word presented to it next, in front of whatever is pending. -/
def State.withFetchWord (s : State) (nbits w : Nat) : State :=
  s.present nbits w

end Sys2Proof.Machine
end

