-- ==== Sys2Proof/Safety.lean ====
section
/-! DEFINITION. What counts as a safe run (spec/70_reset_and_hazards.md R254, spec/60_exceptions.md R213):
a state is one of the hardware's only while the fault latch is clear, and a run's end state counts only
then. -/

namespace Sys2Proof

/-- The state is a state of the hardware: no unmodelled input has reached the engine since reset. -/
def Machine.State.Valid (s : Machine.State) : Prop :=
  s.fault = false

/-- The fault is never silently ignored (R210, R213): what was last answered and the latch agree. An
answer of a fault or a refusal comes with the latch set, and with the latch set nothing has been answered
as plainly performed. -/
def Machine.State.Coherent (s : Machine.State) : Prop :=
  ((∃ why, s.report = .faulted why) ∨ (∃ why, s.report = .refused why) → s.fault = true) ∧
    (s.fault = true → s.report ≠ .done)

/-- A run of `k` steps from `s` ends in `t`, and its end state counts (R254). -/
def Machine.CompletesIn (k : Nat) (s t : Machine.State) : Prop :=
  core.run k s = .next t ∧ t.Valid

end Sys2Proof
end

