-- ==== Sys2Proof/Certificates/Slice0/Obligations.lean ====
section
/-! DEFINITION. What is claimed of the model, each statement from the numbered rules or the sections of
spec/. The right-hand sides are the spec's own formulas over integers, not the model's definitions. -/

namespace Sys2Proof.Claims

open Sys2Proof.Machine

/-- The unsigned reading of an 8-bit cell (R11). -/
def num (s : State) (r : Reg8) : Nat := (s.get8 r).toNat

/-- The carry flag as a number (R11). -/
def carryNum (s : State) : Nat := if s.f.c then 1 else 0

/-- `v[i]` as the number 0 or 1 (R12). -/
def bitNum (v i : Nat) : Nat := v / 2 ^ i % 2

/-- The unsigned reading of a pair view: the first-named cell is the high byte (R30). -/
def pairNum (s : State) : Pair → Nat
  | .bc => num s .b * 256 + num s .c
  | .de => num s .d * 256 + num s .e
  | .hl => num s .h * 256 + num s .l

/-- The unsigned reading of a 16-bit operand (R83). -/
def wideNum (s : State) : Reg16 → Nat
  | .bc => pairNum s .bc
  | .de => pairNum s .de
  | .hl => pairNum s .hl
  | .sp => s.sp.toNat

/-- No 8-bit cell changes. -/
def SameCells (s t : State) : Prop := ∀ q, t.get8 q = s.get8 q

/-- No 8-bit cell but `r` changes. -/
def SameCellsBut (r : Reg8) (s t : State) : Prop := ∀ q, q ≠ r → t.get8 q = s.get8 q

/-- Nothing outside the 8-bit cells and the flags changes: PC, SP, the fault latch, and the model's own
two interface fields. -/
def SameRest (s t : State) : Prop :=
  t.pc = s.pc ∧ t.sp = s.sp ∧ t.fault = s.fault ∧ t.pending = s.pending ∧ t.report = s.report

/-- The CORE's own state: the ten cells of R20 and the latch of R36 agree. -/
def SameCore (s t : State) : Prop :=
  SameCells s t ∧ t.f = s.f ∧ t.pc = s.pc ∧ t.sp = s.sp ∧ t.fault = s.fault

/-- The code of a register in the low bits of a byte (R87). -/
def regByte (r : Reg8) : Byte := r.code.setWidth 8

/-- The instructions that read the carry flag (R26). -/
def readsCarry : Instr → Bool
  | .adc _ | .sbc _ | .rl _ | .rr _ | .rla | .rra | .ccf => true
  | .add _ | .sub _ | .and _ | .xor _ | .or _ | .cp _ | .inc _ | .dec _ | .addHl _ => false
  | .cpl | .scf | .rlca | .rrca | .nop | .halt => false
  | .rlc _ | .rrc _ | .sla _ | .sra _ | .swap _ | .srl _ => false
  | .bit _ _ | .res _ _ | .set _ _ => false

/-- The instructions that write no flag (R26). -/
def writesNoFlag : Instr → Bool
  | .res _ _ | .set _ _ | .nop | .halt => true
  | .add _ | .adc _ | .sub _ | .sbc _ | .and _ | .xor _ | .or _ | .cp _ | .inc _ | .dec _ => false
  | .addHl _ | .cpl | .scf | .ccf | .rlca | .rrca | .rla | .rra => false
  | .rlc _ | .rrc _ | .rl _ | .rr _ | .sla _ | .sra _ | .swap _ | .srl _ | .bit _ _ => false

/-- The accessors that write the flags record (R27, R42). -/
def accessWritesFlags : Access → Bool
  | .setFlags _ | .setFlag _ _ | .setFByte _ | .setAf _ => true
  | .get8 _ | .set8 _ _ | .getFlags | .getFlag _ | .getFByte | .get16 _ | .set16 _ _ => false
  | .getAf | .getPc | .setPc _ | .getSp | .setSp _ => false

/-- The modelled opcodes of the base page, from the format table of R86. -/
def baseModelled (o : Byte) : Bool :=
  (decide (0x80 ≤ o.toNat ∧ o.toNat ≤ 0xBF) && decide (o.toNat % 8 ≠ 6)) ||
    [0x04, 0x05, 0x0C, 0x0D, 0x14, 0x15, 0x1C, 0x1D, 0x24, 0x25, 0x2C, 0x2D, 0x3C, 0x3D,
      0x09, 0x19, 0x29, 0x39,
      0x00, 0x07, 0x0F, 0x17, 0x1F, 0x2F, 0x37, 0x3F, 0x76].contains o.toNat

/-- The modelled opcodes of the extended page: all but those whose register field is 110 (R90). -/
def extendedModelled (o : Byte) : Bool := decide (o.toNat % 8 ≠ 6)

/-- Instructions executed one after another, each from the state the one before it left. -/
def runAll : List Instr → State → Host.Outcome State Fault Refusal
  | [], s => .next s
  | i :: is, s =>
    match exec i s with
    | .next t => runAll is t
    | .fault r => .fault r
    | .refused r => .refused r

/-- Executing `is` from `s` reaches a next state with the property `P`. -/
def Reaches (is : List Instr) (s : State) (P : State → Prop) : Prop :=
  ∃ t, runAll is s = .next t ∧ P t

end Sys2Proof.Claims

open Sys2Proof Sys2Proof.Machine Sys2Proof.Claims

/-! ## The encoding -/

/-- spec/30_encoding.md R91: decoding the encoding of any instruction, whatever bytes follow, gives that
instruction and the length of its encoding. -/
def Obligations.DecodeEncodeRoundTrip : Prop :=
  ∀ (i : Instr) (after : List Byte), i.wf = true →
    decode (encode i ++ after) = .modelled i (encode i).length

/-- spec/30_encoding.md R91, the other direction: the bytes the decoder reads an instruction from are
exactly its encoding, so each instruction value has one byte sequence. -/
def Obligations.DecodedBytesAreTheEncoding : Prop :=
  ∀ (bytes : List Byte) (i : Instr) (len : Nat), decode bytes = .modelled i len →
    bytes.take len = encode i ∧ len = (encode i).length

/-- spec/30_encoding.md R85: the length is known from the first byte alone, and no byte after the
instruction matters. -/
def Obligations.LengthFromFirstByte : Prop :=
  (∀ (first : Byte) (more : List Byte) (i : Instr) (len : Nat),
    decode (first :: more) = .modelled i len → len = if first = 0xCB#8 then 2 else 1) ∧
  (∀ (first : Byte) (more : List Byte), first ≠ 0xCB#8 → decode (first :: more) = decode [first]) ∧
  (∀ (second : Byte) (more : List Byte),
    decode (0xCB#8 :: second :: more) = decode [0xCB#8, second])

/-- spec/30_encoding.md R86, R87, R90: exactly the opcodes of the format table are modelled, 83 on the
base page and 224 on the extended page; an opcode whose register field is 110 never is. An unmodelled
opcode is answered with its own bytes. -/
def Obligations.ModelledOpcodesAreTheFormats : Prop :=
  (∀ (o : Byte) (more : List Byte), o ≠ 0xCB#8 →
    if baseModelled o then ∃ i, decode (o :: more) = .modelled i 1
    else decode (o :: more) = .unmodelled [o]) ∧
  (∀ (o : Byte) (more : List Byte),
    if extendedModelled o then ∃ i, decode (0xCB#8 :: o :: more) = .modelled i 2
    else decode (0xCB#8 :: o :: more) = .unmodelled [0xCB#8, o]) ∧
  ((List.range 256).countP (fun n => baseModelled (BitVec.ofNat 8 n)) = 83) ∧
  ((List.range 256).countP (fun n => extendedModelled (BitVec.ofNat 8 n)) = 224)

/-- spec/30_encoding.md sections 1 and 2 (R86, R87): the code tables of the three operand fields, and the
bytes of every instruction. All of it is the spec's own choice, decision D1 (notes/assumptions/7.md). -/
def Obligations.FieldCodesAndEncodings : Prop :=
  (Reg8.code .b = 0#3 ∧ Reg8.code .c = 1#3 ∧ Reg8.code .d = 2#3 ∧ Reg8.code .e = 3#3 ∧
    Reg8.code .h = 4#3 ∧ Reg8.code .l = 5#3 ∧ Reg8.code .a = 7#3) ∧
  (∀ (code : BitVec 3) (r : Reg8), Reg8.ofCode code = some r ↔ r.code = code) ∧
  Reg8.ofCode 6#3 = none ∧
  (Reg16.code .bc = 0#2 ∧ Reg16.code .de = 1#2 ∧ Reg16.code .hl = 2#2 ∧ Reg16.code .sp = 3#2) ∧
  (∀ (code : BitVec 2) (rr : Reg16), Reg16.ofCode code = rr ↔ rr.code = code) ∧
  (∀ b : BitIndex, (BitIndex.code b).toNat = b.val ∧ BitIndex.ofCode (BitIndex.code b) = b) ∧
  (∀ r : Reg8,
    encode (.add r) = [0x80#8 + regByte r] ∧ encode (.adc r) = [0x88#8 + regByte r] ∧
    encode (.sub r) = [0x90#8 + regByte r] ∧ encode (.sbc r) = [0x98#8 + regByte r] ∧
    encode (.and r) = [0xA0#8 + regByte r] ∧ encode (.xor r) = [0xA8#8 + regByte r] ∧
    encode (.or r) = [0xB0#8 + regByte r] ∧ encode (.cp r) = [0xB8#8 + regByte r] ∧
    encode (.inc r) = [0x04#8 + (regByte r <<< 3)] ∧
    encode (.dec r) = [0x05#8 + (regByte r <<< 3)] ∧
    encode (.rlc r) = [0xCB#8, 0x00#8 + regByte r] ∧ encode (.rrc r) = [0xCB#8, 0x08#8 + regByte r] ∧
    encode (.rl r) = [0xCB#8, 0x10#8 + regByte r] ∧ encode (.rr r) = [0xCB#8, 0x18#8 + regByte r] ∧
    encode (.sla r) = [0xCB#8, 0x20#8 + regByte r] ∧ encode (.sra r) = [0xCB#8, 0x28#8 + regByte r] ∧
    encode (.swap r) = [0xCB#8, 0x30#8 + regByte r] ∧ encode (.srl r) = [0xCB#8, 0x38#8 + regByte r]) ∧
  (∀ (b : BitIndex) (r : Reg8),
    encode (.bit b r) = [0xCB#8, BitVec.ofNat 8 (0x40 + 8 * b.val) + regByte r] ∧
    encode (.res b r) = [0xCB#8, BitVec.ofNat 8 (0x80 + 8 * b.val) + regByte r] ∧
    encode (.set b r) = [0xCB#8, BitVec.ofNat 8 (0xC0 + 8 * b.val) + regByte r]) ∧
  (∀ rr : Reg16, encode (.addHl rr) = [0x09#8 + (rr.code.setWidth 8 <<< 4)]) ∧
  encode .cpl = [0x2F#8] ∧ encode .scf = [0x37#8] ∧ encode .ccf = [0x3F#8] ∧
  encode .rlca = [0x07#8] ∧ encode .rrca = [0x0F#8] ∧ encode .rla = [0x17#8] ∧
  encode .rra = [0x1F#8] ∧ encode .nop = [0x00#8] ∧ encode .halt = [0x76#8]

/-- Sample words of every family, from the opcode maps of spec/30_encoding.md section 3 and the encoding
vectors of spec/95_test_vectors.md section 2.13. -/
def Obligations.SampleWordsDecode : Prop :=
  decode [0x80#8] = .modelled (.add .b) 1 ∧ decode [0xA8#8] = .modelled (.xor .b) 1 ∧
  decode [0xB0#8] = .modelled (.or .b) 1 ∧ decode [0xBF#8] = .modelled (.cp .a) 1 ∧
  decode [0x3C#8] = .modelled (.inc .a) 1 ∧ decode [0x05#8] = .modelled (.dec .b) 1 ∧
  decode [0x39#8] = .modelled (.addHl .sp) 1 ∧ decode [0x2F#8] = .modelled .cpl 1 ∧
  decode [0x17#8] = .modelled .rla 1 ∧ decode [0x76#8] = .modelled .halt 1 ∧
  decode [0xCB#8, 0x30#8] = .modelled (.swap .b) 2 ∧ decode [0xCB#8, 0x3F#8] = .modelled (.srl .a) 2 ∧
  decode [0xCB#8, 0x5C#8] = .modelled (.bit 3 .h) 2 ∧ decode [0xCB#8, 0x87#8] = .modelled (.res 0 .a) 2 ∧
  decode [0xCB#8, 0xFD#8] = .modelled (.set 7 .l) 2 ∧ decode [0x27#8] = .unmodelled [0x27#8] ∧
  decode [0xCB#8, 0x46#8] = .unmodelled [0xCB#8, 0x46#8]

/-! ## The step -/

/-- spec/30_encoding.md section 2, the reference harness (R88): when the byte stream presented next
decodes to an instruction, the step is the execution of that instruction, with PC already advanced past
its bytes modulo 65536 and the rest of the stream still to come. That PC moves before `execute` is
decision D5 (notes/assumptions/9.md). -/
def Obligations.StepRunsDecodedInstruction : Prop :=
  ∀ (s : State) (first : Byte) (more : List Byte) (rest : List Transaction) (i : Instr) (len : Nat),
    s.fault = false → s.pending = .stream first more :: rest →
    decode (first :: more) = .modelled i len →
    step s = exec i { s with
      pc := BitVec.ofNat 16 (s.pc.toNat + len)
      pending := queueStream ((first :: more).drop len) rest
      report := .done }

/-- spec/30_encoding.md section 1, spec/00_scope.md section 2: a step on an `execute(i)` transaction is
the execution of `i`, the transaction being taken off the list; PC is not moved. -/
def Obligations.StepRunsExecuteTransaction : Prop :=
  ∀ (s : State) (i : Instr) (rest : List Transaction), s.pending = .execute i :: rest →
    step s = exec i { s with pending := rest, report := .done }

/-- spec/10_state.md section 8: a step on an accessor transaction is that accessor, the transaction being
taken off the list. -/
def Obligations.StepPerformsAccessor : Prop :=
  ∀ (s : State) (q : Access) (rest : List Transaction), s.pending = .access q :: rest →
    step s = access q { s with pending := rest, report := .done }

/-- spec/00_scope.md section 2 (R4): the CORE does nothing on its own; with no transaction issued a step
changes nothing. That such a step is a next state is notes/assumptions/4.md. -/
def Obligations.StepWithNothingPendingIsIdle : Prop :=
  ∀ (p : ResetParams) (s : State), s.pending = [] → stepWith p s = .next s

/-- spec/60_exceptions.md section 1 (R210, R211; decision D3, notes/assumptions/5.md): bytes that decode
to no instruction raise the fault: the latch is set, the offending input is reported, every cell, the
flags, PC and SP keep their values, and the run of that stream ends. -/
def Obligations.UnmodelledInputRaisesFault : Prop :=
  ∀ (s : State) (first : Byte) (more : List Byte) (rest : List Transaction) (info : List Byte),
    s.fault = false → s.pending = .stream first more :: rest →
    decode (first :: more) = .unmodelled info →
    ∃ t, step s = .next t ∧ t.fault = true ∧ SameCells s t ∧ t.f = s.f ∧ t.pc = s.pc ∧ t.sp = s.sp ∧
      t.pending = rest ∧ t.report = .faulted (.unmodelledInstruction info)

/-- spec/60_exceptions.md section 1 (R213; decision D15, notes/assumptions/6.md): on a faulted CORE every
`execute`, every write accessor and every turn of the byte harness has no effect and is reported as
refused. -/
def Obligations.FaultedCoreRefuses : Prop :=
  ∀ (s : State) (x : Transaction) (rest : List Transaction),
    s.fault = true → s.pending = x :: rest →
    (match x with
      | .reset => False
      | .execute _ => True
      | .access q => accessReads q = false
      | .stream _ _ => True) →
    step s = .next { s with pending := rest, report := .refused .faultLatched }

/-- spec/60_exceptions.md section 1 (R213), spec/10_state.md section 8 (R47): a read accessor changes no
cell and answers, on a faulted CORE too, and neither a fault nor a refusal. -/
def Obligations.ReadAccessorsAlwaysAnswer : Prop :=
  ∀ (s : State) (q : Access) (rest : List Transaction),
    s.pending = .access q :: rest → accessReads q = true →
    ∃ t m, step s = .next t ∧ t = { s with pending := rest, report := m } ∧ m ≠ .done ∧
      (∀ why, m ≠ .faulted why) ∧ (∀ why, m ≠ .refused why)

/-- spec/70_reset_and_hazards.md section 1 (R240 to R242): `reset` replaces every cell with its parameter
and clears the latch, whatever the state was, for every choice of the parameters. The clauses on the
pending list and the report are the model's own choice (notes/assumptions/2.md and 3.md), not the
spec's. -/
def Obligations.ResetReplacesTheState : Prop :=
  ∀ (p : ResetParams) (s : State) (rest : List Transaction), s.pending = .reset :: rest →
    ∃ t, stepWith p s = .next t ∧ t.pc = p.pc ∧ t.sp = p.sp ∧ t.f = p.f ∧
      t.get8 .a = p.a ∧ t.get8 .b = p.b ∧ t.get8 .c = p.c ∧ t.get8 .d = p.d ∧ t.get8 .e = p.e ∧
      t.get8 .h = p.h ∧ t.get8 .l = p.l ∧ t.fault = false ∧ t.pending = rest ∧ t.report = .done

/-- spec/70_reset_and_hazards.md section 1 (R241): the one constraint on the reset values, SP not zero,
and the latch clear (R36), for every well-formed choice of the parameters and for this instance. -/
def Obligations.ResetStackPointerIsNotZero : Prop :=
  (∀ p : ResetParams, p.wf = true → (State.resetWith p).sp ≠ 0#16 ∧ (State.resetWith p).fault = false) ∧
  State.reset.sp ≠ 0#16 ∧ State.reset.fault = false

/-- spec/60_exceptions.md section 1: at reset the last answer and the latch agree. -/
def Obligations.ResetIsCoherent : Prop :=
  State.reset.Coherent ∧ ∀ p : ResetParams, (State.resetWith p).Coherent

/-- spec/60_exceptions.md section 1 (R210 "never silently ignored", R213): every step keeps the agreement
of the last answer with the latch: a fault or a refusal is answered only with the latch set, and while it
is set nothing is answered as plainly performed. -/
def Obligations.EveryStepKeepsCoherence : Prop :=
  ∀ (p : ResetParams) (s t : State), s.Coherent → stepWith p s = .next t → t.Coherent

/-- spec/10_state.md section 6, spec/60_exceptions.md sections 1 and 3 (R36, R213, R219): only `reset`
clears the latch, and until then every cell is frozen. -/
def Obligations.OnlyResetLeavesTheFault : Prop :=
  ∀ (p : ResetParams) (s t : State), s.fault = true → stepWith p s = .next t →
    SameCore s t ∨ (∃ rest, s.pending = .reset :: rest ∧ t.fault = false)

/-- spec/60_exceptions.md section 1 (R210, R214, R215): the latch is set by nothing but bytes that decode
to no instruction; no instruction value and no accessor sets it. -/
def Obligations.OnlyUnmodelledBytesSetTheFault : Prop :=
  ∀ (p : ResetParams) (s t : State), s.fault = false → stepWith p s = .next t → t.fault = true →
    ∃ first more rest info, s.pending = .stream first more :: rest ∧
      decode (first :: more) = .unmodelled info ∧
      t.report = .faulted (.unmodelledInstruction info)

/-- spec/00_scope.md section 2 (R5, R14): every transaction completes. -/
def Obligations.EveryTransactionCompletes : Prop :=
  ∀ (p : ResetParams) (s : State), ∃ t, stepWith p s = .next t

/-- spec/60_exceptions.md section 1 (R215), spec/95_test_vectors.md V-FT13: every one of the instruction
values succeeds from every unfaulted state and raises no fault. -/
def Obligations.EveryInstructionSucceeds : Prop :=
  ∀ (i : Instr) (s : State), s.fault = false →
    ∃ t, exec i s = .next t ∧ t.fault = false ∧ t.report = s.report

/-- spec/10_state.md section 5 (R33, R35), spec/47_nop_halt.md R202: no instruction writes PC, SP, the
latch or the environment's list. -/
def Obligations.NoInstructionWritesPcOrSp : Prop :=
  ∀ (i : Instr) (s t : State), exec i s = .next t →
    t.pc = s.pc ∧ t.sp = s.sp ∧ t.fault = s.fault ∧ t.pending = s.pending

/-- spec/10_state.md sections 5 and 8 (R33, R35, R45, R46): PC changes only by `set_pc`, by the harness
moving past an instruction's bytes, or by reset; SP only by `set_sp` or by reset. -/
def Obligations.WhatWritesPcAndSp : Prop :=
  ∀ (p : ResetParams) (s t : State), stepWith p s = .next t →
    (t.pc ≠ s.pc →
      (∃ v rest, s.pending = .access (.setPc v) :: rest ∧ t.pc = v) ∨
      (∃ first more rest i len, s.pending = .stream first more :: rest ∧
        decode (first :: more) = .modelled i len ∧ t.pc.toNat = (s.pc.toNat + len) % 65536) ∨
      (∃ rest, s.pending = .reset :: rest)) ∧
    (t.sp ≠ s.sp →
      (∃ v rest, s.pending = .access (.setSp v) :: rest ∧ t.sp = v) ∨
      (∃ rest, s.pending = .reset :: rest))

/-- spec/10_state.md section 2 (R26, R27): the flags change only by an instruction that writes flags, by
an accessor of the flags record or of AF, or by reset. -/
def Obligations.WhatWritesTheFlags : Prop :=
  ∀ (p : ResetParams) (s t : State), stepWith p s = .next t → t.f ≠ s.f →
    (∃ i rest, s.pending = .execute i :: rest ∧ writesNoFlag i = false) ∨
    (∃ first more rest i len, s.pending = .stream first more :: rest ∧
      decode (first :: more) = .modelled i len ∧ writesNoFlag i = false) ∨
    (∃ q rest, s.pending = .access q :: rest ∧ accessWritesFlags q = true) ∨
    (∃ rest, s.pending = .reset :: rest)

/-- spec/10_state.md section 2 (R26): no instruction reads Z, N or H. Changing them before changes no cell
and not the carry after, and each of the three comes out the same or is carried over from before. -/
def Obligations.NoInstructionReadsZNH : Prop :=
  ∀ (i : Instr) (s t : State) (z n h : Bool), s.fault = false → exec i s = .next t →
    ∃ u, exec i { s with f := { z := z, n := n, h := h, c := s.f.c } } = .next u ∧
      SameCells t u ∧ SameRest t u ∧ u.f.c = t.f.c ∧
      (u.f.z = t.f.z ∨ (u.f.z = z ∧ t.f.z = s.f.z)) ∧
      (u.f.n = t.f.n ∨ (u.f.n = n ∧ t.f.n = s.f.n)) ∧
      (u.f.h = t.f.h ∨ (u.f.h = h ∧ t.f.h = s.f.h))

/-- spec/10_state.md section 2 (R26): the carry is read only by ADC, SBC, RL, RR, RLA, RRA and CCF. For
every other instruction, changing it before changes no cell and no other flag after, and the carry comes
out the same or is carried over. -/
def Obligations.OnlySevenInstructionsReadCarry : Prop :=
  ∀ (i : Instr) (s t : State) (c : Bool), s.fault = false → readsCarry i = false →
    exec i s = .next t →
    ∃ u, exec i { s with f := { s.f with c := c } } = .next u ∧
      SameCells t u ∧ SameRest t u ∧ u.f.z = t.f.z ∧ u.f.n = t.f.n ∧ u.f.h = t.f.h ∧
      (u.f.c = t.f.c ∨ (u.f.c = c ∧ t.f.c = s.f.c))

/-- spec/10_state.md sections 1 and 7 (R20, R39), spec/20_memory.md R69: there is no hidden state. What a
transaction does to the CORE and what it answers depend on the cells and the latch alone, not on earlier
answers nor on transactions still to come. -/
def Obligations.NoHiddenState : Prop :=
  ∀ (p : ResetParams) (s s' t : State) (x : Transaction) (rest rest' : List Transaction),
    SameCore s s' → s.pending = x :: rest → s'.pending = x :: rest' → stepWith p s = .next t →
    ∃ t', stepWith p s' = .next t' ∧ SameCore t t' ∧ t'.report = t.report

/-! ## 8-bit accumulator arithmetic and logic (spec/40_alu8.md). The encoding that each instruction's
rule also gives is decision D1, stated for every instruction by `FieldCodesAndEncodings`. -/

/-- R110. -/
def Obligations.AddRegister : Prop :=
  ∀ (r : Reg8) (s : State), s.fault = false →
    ∃ t, exec (.add r) s = .next t ∧
      num t .a = (num s .a + num s r) % 256 ∧
      t.f.z = decide ((num s .a + num s r) % 256 = 0) ∧
      t.f.n = false ∧
      t.f.h = decide ((num s .a &&& 0xF) + (num s r &&& 0xF) > 0xF) ∧
      t.f.c = decide (num s .a + num s r > 255) ∧
      SameCellsBut .a s t ∧ SameRest s t

/-- R111. -/
def Obligations.AddRegisterWithCarry : Prop :=
  ∀ (r : Reg8) (s : State), s.fault = false →
    ∃ t, exec (.adc r) s = .next t ∧
      num t .a = (num s .a + num s r + carryNum s) % 256 ∧
      t.f.z = decide ((num s .a + num s r + carryNum s) % 256 = 0) ∧
      t.f.n = false ∧
      t.f.h = decide ((num s .a &&& 0xF) + (num s r &&& 0xF) + carryNum s > 0xF) ∧
      t.f.c = decide (num s .a + num s r + carryNum s > 255) ∧
      SameCellsBut .a s t ∧ SameRest s t

/-- R112. -/
def Obligations.SubtractRegister : Prop :=
  ∀ (r : Reg8) (s : State), s.fault = false →
    ∃ t, exec (.sub r) s = .next t ∧
      (num t .a : Int) = ((num s .a : Int) - num s r) % 256 ∧
      t.f.z = decide (((num s .a : Int) - num s r) % 256 = 0) ∧
      t.f.n = true ∧
      t.f.h = decide ((num s .a &&& 0xF) < (num s r &&& 0xF)) ∧
      t.f.c = decide (num s .a < num s r) ∧
      SameCellsBut .a s t ∧ SameRest s t

/-- R113. -/
def Obligations.SubtractRegisterWithCarry : Prop :=
  ∀ (r : Reg8) (s : State), s.fault = false →
    ∃ t, exec (.sbc r) s = .next t ∧
      (num t .a : Int) = ((num s .a : Int) - num s r - carryNum s) % 256 ∧
      t.f.z = decide (((num s .a : Int) - num s r - carryNum s) % 256 = 0) ∧
      t.f.n = true ∧
      t.f.h = decide ((num s .a &&& 0xF) < (num s r &&& 0xF) + carryNum s) ∧
      t.f.c = decide (num s .a < num s r + carryNum s) ∧
      SameCellsBut .a s t ∧ SameRest s t

/-- R114. -/
def Obligations.AndRegister : Prop :=
  ∀ (r : Reg8) (s : State), s.fault = false →
    ∃ t, exec (.and r) s = .next t ∧
      num t .a = num s .a &&& num s r ∧
      t.f.z = decide (num s .a &&& num s r = 0) ∧ t.f.n = false ∧ t.f.h = true ∧ t.f.c = false ∧
      SameCellsBut .a s t ∧ SameRest s t

/-- R115. -/
def Obligations.OrRegister : Prop :=
  ∀ (r : Reg8) (s : State), s.fault = false →
    ∃ t, exec (.or r) s = .next t ∧
      num t .a = num s .a ||| num s r ∧
      t.f.z = decide (num s .a ||| num s r = 0) ∧ t.f.n = false ∧ t.f.h = false ∧ t.f.c = false ∧
      SameCellsBut .a s t ∧ SameRest s t

/-- R116. -/
def Obligations.XorRegister : Prop :=
  ∀ (r : Reg8) (s : State), s.fault = false →
    ∃ t, exec (.xor r) s = .next t ∧
      num t .a = num s .a ^^^ num s r ∧
      t.f.z = decide (num s .a ^^^ num s r = 0) ∧ t.f.n = false ∧ t.f.h = false ∧ t.f.c = false ∧
      SameCellsBut .a s t ∧ SameRest s t

/-- R117, with its remark that the flags are those `SUB r` would give. -/
def Obligations.CompareRegister : Prop :=
  ∀ (r : Reg8) (s : State), s.fault = false →
    ∃ t, exec (.cp r) s = .next t ∧
      t.f.z = decide (num s .a = num s r) ∧
      t.f.n = true ∧
      t.f.h = decide ((num s .a &&& 0xF) < (num s r &&& 0xF)) ∧
      t.f.c = decide (num s .a < num s r) ∧
      SameCells s t ∧ SameRest s t ∧
      ∃ u, exec (.sub r) s = .next u ∧ t.f = u.f

/-! ## Increment and decrement (spec/41_incdec.md) -/

/-- R130. -/
def Obligations.IncrementRegister : Prop :=
  ∀ (r : Reg8) (s : State), s.fault = false →
    ∃ t, exec (.inc r) s = .next t ∧
      num t r = (num s r + 1) % 256 ∧
      t.f.z = decide ((num s r + 1) % 256 = 0) ∧
      t.f.n = false ∧
      t.f.h = decide (num s r &&& 0xF = 0xF) ∧
      t.f.c = s.f.c ∧
      SameCellsBut r s t ∧ SameRest s t

/-- R131. -/
def Obligations.DecrementRegister : Prop :=
  ∀ (r : Reg8) (s : State), s.fault = false →
    ∃ t, exec (.dec r) s = .next t ∧
      (num t r : Int) = ((num s r : Int) - 1) % 256 ∧
      t.f.z = decide (((num s r : Int) - 1) % 256 = 0) ∧
      t.f.n = true ∧
      t.f.h = decide (num s r &&& 0xF = 0x0) ∧
      t.f.c = s.f.c ∧
      SameCellsBut r s t ∧ SameRest s t

/-! ## 16-bit add (spec/42_add_hl.md) -/

/-- R140: the source pair and SP keep their values unless they are HL itself. -/
def Obligations.AddToHl : Prop :=
  ∀ (rr : Reg16) (s : State), s.fault = false →
    ∃ t, exec (.addHl rr) s = .next t ∧
      pairNum t .hl = (pairNum s .hl + wideNum s rr) % 65536 ∧
      t.f.z = s.f.z ∧
      t.f.n = false ∧
      t.f.h = decide ((pairNum s .hl &&& 0xFFF) + (wideNum s rr &&& 0xFFF) > 0xFFF) ∧
      t.f.c = decide (pairNum s .hl + wideNum s rr > 65535) ∧
      (∀ q, q ≠ .h → q ≠ .l → t.get8 q = s.get8 q) ∧ SameRest s t

/-! ## Accumulator complement and carry-flag operations (spec/43_acc_flag_ops.md) -/

/-- R150. -/
def Obligations.ComplementAccumulator : Prop :=
  ∀ s : State, s.fault = false →
    ∃ t, exec .cpl s = .next t ∧
      num t .a = num s .a ^^^ 0xFF ∧
      t.f.z = s.f.z ∧ t.f.n = true ∧ t.f.h = true ∧ t.f.c = s.f.c ∧
      SameCellsBut .a s t ∧ SameRest s t

/-- R151 and R152. -/
def Obligations.SetAndComplementCarry : Prop :=
  ∀ s : State, s.fault = false →
    (∃ t, exec .scf s = .next t ∧ t.f.z = s.f.z ∧ t.f.n = false ∧ t.f.h = false ∧ t.f.c = true ∧
      SameCells s t ∧ SameRest s t) ∧
    (∃ t, exec .ccf s = .next t ∧ t.f.z = s.f.z ∧ t.f.n = false ∧ t.f.h = false ∧ t.f.c = !s.f.c ∧
      SameCells s t ∧ SameRest s t)

/-! ## Generic rotates, shifts and swap (spec/44_rotate_shift.md). That Z is `res == 0` and N is false is
the spec's own reading of its source, decision D6 (notes/assumptions/10.md). -/

/-- RLC and RRC (section 2, R160 and R161; flags by R168). -/
def Obligations.RotateCircular : Prop :=
  ∀ (r : Reg8) (s : State), s.fault = false →
    (∃ t, exec (.rlc r) s = .next t ∧
      num t r = ((num s r <<< 1) &&& 0xFF) ||| bitNum (num s r) 7 ∧
      t.f.z = decide (num t r = 0) ∧ t.f.n = false ∧ t.f.h = false ∧
      t.f.c = decide (bitNum (num s r) 7 = 1) ∧
      SameCellsBut r s t ∧ SameRest s t) ∧
    (∃ t, exec (.rrc r) s = .next t ∧
      num t r = (num s r >>> 1) ||| (bitNum (num s r) 0 <<< 7) ∧
      t.f.z = decide (num t r = 0) ∧ t.f.n = false ∧ t.f.h = false ∧
      t.f.c = decide (bitNum (num s r) 0 = 1) ∧
      SameCellsBut r s t ∧ SameRest s t)

/-- RL and RR (section 2, R162 and R163; flags by R168). -/
def Obligations.RotateThroughCarry : Prop :=
  ∀ (r : Reg8) (s : State), s.fault = false →
    (∃ t, exec (.rl r) s = .next t ∧
      num t r = ((num s r <<< 1) &&& 0xFF) ||| carryNum s ∧
      t.f.z = decide (num t r = 0) ∧ t.f.n = false ∧ t.f.h = false ∧
      t.f.c = decide (bitNum (num s r) 7 = 1) ∧
      SameCellsBut r s t ∧ SameRest s t) ∧
    (∃ t, exec (.rr r) s = .next t ∧
      num t r = (num s r >>> 1) ||| (carryNum s <<< 7) ∧
      t.f.z = decide (num t r = 0) ∧ t.f.n = false ∧ t.f.h = false ∧
      t.f.c = decide (bitNum (num s r) 0 = 1) ∧
      SameCellsBut r s t ∧ SameRest s t)

/-- SLA, SRA and SRL (section 2, R164 to R166; flags by R168). -/
def Obligations.ShiftRegister : Prop :=
  ∀ (r : Reg8) (s : State), s.fault = false →
    (∃ t, exec (.sla r) s = .next t ∧
      num t r = (num s r <<< 1) &&& 0xFF ∧
      t.f.z = decide (num t r = 0) ∧ t.f.n = false ∧ t.f.h = false ∧
      t.f.c = decide (bitNum (num s r) 7 = 1) ∧
      SameCellsBut r s t ∧ SameRest s t) ∧
    (∃ t, exec (.sra r) s = .next t ∧
      num t r = (num s r >>> 1) ||| (num s r &&& 0x80) ∧
      t.f.z = decide (num t r = 0) ∧ t.f.n = false ∧ t.f.h = false ∧
      t.f.c = decide (bitNum (num s r) 0 = 1) ∧
      SameCellsBut r s t ∧ SameRest s t) ∧
    (∃ t, exec (.srl r) s = .next t ∧
      num t r = num s r >>> 1 ∧
      t.f.z = decide (num t r = 0) ∧ t.f.n = false ∧ t.f.h = false ∧
      t.f.c = decide (bitNum (num s r) 0 = 1) ∧
      SameCellsBut r s t ∧ SameRest s t)

/-- SWAP (section 2, R167; N by R168). -/
def Obligations.SwapNibblesOfRegister : Prop :=
  ∀ (r : Reg8) (s : State), s.fault = false →
    ∃ t, exec (.swap r) s = .next t ∧
      num t r = ((num s r &&& 0x0F) <<< 4) ||| (num s r >>> 4) ∧
      t.f.z = decide (num t r = 0) ∧ t.f.n = false ∧ t.f.h = false ∧ t.f.c = false ∧
      SameCellsBut r s t ∧ SameRest s t

/-- The laws of section 1 (R170): what repeated or opposite rotates restore, and the shifts as integer
operations. -/
def Obligations.RotateAndShiftLaws : Prop :=
  ∀ (r : Reg8) (s : State), s.fault = false →
    Reaches (List.replicate 8 (.rlc r)) s (fun t => t.get8 r = s.get8 r) ∧
    Reaches (List.replicate 8 (.rrc r)) s (fun t => t.get8 r = s.get8 r) ∧
    Reaches (List.replicate 9 (.rl r)) s (fun t => t.get8 r = s.get8 r ∧ t.f.c = s.f.c) ∧
    Reaches (List.replicate 9 (.rr r)) s (fun t => t.get8 r = s.get8 r ∧ t.f.c = s.f.c) ∧
    Reaches [.rlc r, .rrc r] s (fun t => t.get8 r = s.get8 r) ∧
    Reaches [.rl r, .rr r] s (fun t => t.get8 r = s.get8 r ∧ t.f.c = s.f.c) ∧
    Reaches [.swap r, .swap r] s (fun t => t.get8 r = s.get8 r) ∧
    Reaches [.sla r] s (fun t => num t r = num s r * 2 % 256) ∧
    Reaches [.srl r] s (fun t => num t r = num s r / 2) ∧
    Reaches [.sra r] s (fun t => bitNum (num t r) 7 = bitNum (num s r) 7 ∧
      bitNum (num t r) 6 = bitNum (num s r) 7)

/-! ## Accumulator-only rotates (spec/45_rotate_a.md) -/

/-- R180 and R181. -/
def Obligations.RotateAccumulatorCircular : Prop :=
  ∀ s : State, s.fault = false →
    (∃ t, exec .rlca s = .next t ∧
      num t .a = ((num s .a <<< 1) &&& 0xFF) ||| bitNum (num s .a) 7 ∧
      t.f.z = false ∧ t.f.n = false ∧ t.f.h = false ∧ t.f.c = decide (bitNum (num s .a) 7 = 1) ∧
      SameCellsBut .a s t ∧ SameRest s t) ∧
    (∃ t, exec .rrca s = .next t ∧
      num t .a = (num s .a >>> 1) ||| (bitNum (num s .a) 0 <<< 7) ∧
      t.f.z = false ∧ t.f.n = false ∧ t.f.h = false ∧ t.f.c = decide (bitNum (num s .a) 0 = 1) ∧
      SameCellsBut .a s t ∧ SameRest s t)

/-- R182 and R183. -/
def Obligations.RotateAccumulatorThroughCarry : Prop :=
  ∀ s : State, s.fault = false →
    (∃ t, exec .rla s = .next t ∧
      num t .a = ((num s .a <<< 1) &&& 0xFF) ||| carryNum s ∧
      t.f.z = false ∧ t.f.n = false ∧ t.f.h = false ∧ t.f.c = decide (bitNum (num s .a) 7 = 1) ∧
      SameCellsBut .a s t ∧ SameRest s t) ∧
    (∃ t, exec .rra s = .next t ∧
      num t .a = (num s .a >>> 1) ||| (carryNum s <<< 7) ∧
      t.f.z = false ∧ t.f.n = false ∧ t.f.h = false ∧ t.f.c = decide (bitNum (num s .a) 0 = 1) ∧
      SameCellsBut .a s t ∧ SameRest s t)

/-- Section 1 (R184): each accumulator-only rotate against its generic form on A: the same A, C, N and H,
and Z differs exactly when the result is zero. The Z of the generic form is decision D6
(notes/assumptions/10.md). -/
def Obligations.AccumulatorRotatesDifferOnlyInZero : Prop :=
  ∀ (s : State) (short generic : Instr),
    s.fault = false →
    (short, generic) ∈ [(Instr.rlca, Instr.rlc .a), (.rrca, .rrc .a), (.rla, .rl .a), (.rra, .rr .a)] →
    ∃ t u, exec short s = .next t ∧ exec generic s = .next u ∧
      SameCells t u ∧ SameRest t u ∧ u.f.c = t.f.c ∧ u.f.n = t.f.n ∧ u.f.h = t.f.h ∧
      t.f.z = false ∧ u.f.z = decide (num t .a = 0)

/-! ## Bit test, set and reset (spec/46_bit_ops.md) -/

/-- R190. -/
def Obligations.TestBitOfRegister : Prop :=
  ∀ (b : BitIndex) (r : Reg8) (s : State), s.fault = false →
    ∃ t, exec (.bit b r) s = .next t ∧
      t.f.z = decide (bitNum (num s r) b.val = 0) ∧ t.f.n = false ∧ t.f.h = true ∧ t.f.c = s.f.c ∧
      SameCells s t ∧ SameRest s t

/-- R191 and R192. -/
def Obligations.SetAndResetBitOfRegister : Prop :=
  ∀ (b : BitIndex) (r : Reg8) (s : State), s.fault = false →
    (∃ t, exec (.set b r) s = .next t ∧
      num t r = num s r ||| (1 <<< b.val) ∧
      t.f = s.f ∧ SameCellsBut r s t ∧ SameRest s t) ∧
    (∃ t, exec (.res b r) s = .next t ∧
      num t r = num s r &&& (0xFF ^^^ (1 <<< b.val)) ∧
      t.f = s.f ∧ SameCellsBut r s t ∧ SameRest s t)

/-- The laws of R194: SET and RES determine what BIT then finds, commute on different bits of one
register, and are idempotent. -/
def Obligations.BitOperationLaws : Prop :=
  ∀ (b d : BitIndex) (r : Reg8) (s : State), s.fault = false →
    Reaches [.set b r, .bit b r] s (fun t => t.f.z = false) ∧
    Reaches [.res b r, .bit b r] s (fun t => t.f.z = true) ∧
    runAll [.set b r, .set b r] s = runAll [.set b r] s ∧
    runAll [.res b r, .res b r] s = runAll [.res b r] s ∧
    (b ≠ d → runAll [.set b r, .res d r] s = runAll [.res d r, .set b r] s) ∧
    runAll [.set b r, .set d r] s = runAll [.set d r, .set b r] s ∧
    runAll [.res b r, .res d r] s = runAll [.res d r, .res b r] s

/-! ## NOP and HALT (spec/47_nop_halt.md) -/

/-- R200. -/
def Obligations.NopIsTheIdentity : Prop :=
  ∀ s : State, s.fault = false → exec .nop s = .next s

/-- R201 (decision D4, notes/assumptions/11.md): inside the CORE, HALT is the identity, keeps no halted
bit and raises nothing. -/
def Obligations.HaltIsTheIdentity : Prop :=
  ∀ s : State, s.fault = false → exec .halt s = .next s

/-! ## The flags codec, the pair views and the accessors (spec/10_state.md) -/

/-- R23, R24 and R25. -/
def Obligations.FlagsCodecLaws : Prop :=
  (∀ f : Flags, (flagsToByte f).toNat =
    (if f.z then 0x80 else 0) + (if f.n then 0x40 else 0) + (if f.h then 0x20 else 0) +
      (if f.c then 0x10 else 0)) ∧
  (∀ b : Byte, (flagsOfByte b).z = decide (bitNum b.toNat 7 = 1) ∧
    (flagsOfByte b).n = decide (bitNum b.toNat 6 = 1) ∧
    (flagsOfByte b).h = decide (bitNum b.toNat 5 = 1) ∧
    (flagsOfByte b).c = decide (bitNum b.toNat 4 = 1)) ∧
  (∀ f : Flags, flagsOfByte (flagsToByte f) = f) ∧
  (∀ b : Byte, flagsToByte (flagsOfByte b) = b &&& 0xF0#8) ∧
  (∀ b : Byte, flagsToByte (flagsOfByte b) = b ↔ b &&& 0x0F#8 = 0#8) ∧
  (∀ b : Byte, (∃ f, flagsToByte f = b) ↔ b &&& 0x0F#8 = 0#8)

/-- R40. The write is that of an unfaulted CORE (on a faulted one: `FaultedCoreRefuses`). -/
def Obligations.CellAccessors : Prop :=
  (∀ (r : Reg8) (s : State), access (.get8 r) s = .next { s with report := .byte (s.get8 r) }) ∧
  ∀ (r : Reg8) (v : Byte) (s : State), s.fault = false →
    ∃ t, access (.set8 r v) s = .next t ∧ t.get8 r = v ∧ t.f = s.f ∧
      SameCellsBut r s t ∧ SameRest s t

/-- R41: the accessors of the flags record and of its four flags. -/
def Obligations.FlagAccessors : Prop :=
  (∀ s : State, access .getFlags s = .next { s with report := .flags s.f } ∧
    access (.getFlag .z) s = .next { s with report := .flag s.f.z } ∧
    access (.getFlag .n) s = .next { s with report := .flag s.f.n } ∧
    access (.getFlag .h) s = .next { s with report := .flag s.f.h } ∧
    access (.getFlag .c) s = .next { s with report := .flag s.f.c }) ∧
  ∀ s : State, s.fault = false →
    (∀ g, access (.setFlags g) s = .next { s with f := g }) ∧
    (∀ x, access (.setFlag .z x) s = .next { s with f := { s.f with z := x } }) ∧
    (∀ x, access (.setFlag .n x) s = .next { s with f := { s.f with n := x } }) ∧
    (∀ x, access (.setFlag .h x) s = .next { s with f := { s.f with h := x } }) ∧
    (∀ x, access (.setFlag .c x) s = .next { s with f := { s.f with c := x } })

/-- spec/10_state.md section 8 (R42): the accessors of the packed flag byte are the low byte of the AF
view, and A keeps its value. -/
def Obligations.PackedFlagByteAccessors : Prop :=
  (∀ s : State, ∃ v : Word, access .getAf s = .next { s with report := .word v } ∧
    access .getFByte s = .next { s with report := .byte (BitVec.ofNat 8 (v.toNat % 256)) }) ∧
  ∀ (b : Byte) (s : State), s.fault = false →
    access (.setFByte b) s = .next { s with f := flagsOfByte b } ∧
    access (.setFByte b) s = access (.setAf (BitVec.ofNat 16 (num s .a * 256 + b.toNat))) s

/-- R30 and R43: a pair view is composed of its two cells, high byte first, and a write of it is a write
of those two cells and of nothing else. -/
def Obligations.PairViews : Prop :=
  (∀ (p : Pair) (s : State), ∃ v : Word,
    access (.get16 p) s = .next { s with report := .word v } ∧ v.toNat = pairNum s p) ∧
  ∀ (p : Pair) (v : Word) (s : State), s.fault = false →
    ∃ t, access (.set16 p v) s = .next t ∧ pairNum t p = v.toNat ∧
      (∀ hi lo, (p, hi, lo) ∈ [(Pair.bc, Reg8.b, Reg8.c), (.de, .d, .e), (.hl, .h, .l)] →
        num t hi = v.toNat / 256 ∧ num t lo = v.toNat % 256 ∧
        ∀ q, q ≠ hi → q ≠ lo → t.get8 q = s.get8 q) ∧
      t.f = s.f ∧ SameRest s t

/-- R31 and R44: AF is A and the packed flag byte; a write drops bits 3 to 0, so that what is then read is
`v & 0xFFF0`. -/
def Obligations.AfView : Prop :=
  (∀ s : State, ∃ v : Word, access .getAf s = .next { s with report := .word v } ∧
    v.toNat = num s .a * 256 + (flagsToByte s.f).toNat ∧ v &&& 0x000F#16 = 0#16) ∧
  ∀ (v : Word) (s : State), s.fault = false →
    ∃ t, access (.setAf v) s = .next t ∧
      num t .a = v.toNat / 256 ∧ t.f = flagsOfByte (BitVec.ofNat 8 v.toNat) ∧
      access .getAf t = .next { t with report := .word (v &&& 0xFFF0#16) } ∧
      SameCellsBut .a s t ∧ SameRest s t

/-- R45 and R46: every 16-bit value is legal in PC and in SP, zero included. -/
def Obligations.PcAndSpAccessors : Prop :=
  (∀ s : State, access .getPc s = .next { s with report := .word s.pc } ∧
    access .getSp s = .next { s with report := .word s.sp }) ∧
  ∀ (v : Word) (s : State), s.fault = false →
    access (.setPc v) s = .next { s with pc := v } ∧
    access (.setSp v) s = .next { s with sp := v }
end

