-- ==== Sys2Proof/Laws/State.lean ====
section
/-! SUPPORT. One lemma per field per update of the state, and what each register operation reads back:
no later proof unfolds a record update. -/

namespace Sys2Proof.Machine

variable (s : State)

/-! ## `State.setFlags` -/

@[simp] theorem State.setFlags_a (g : Flags) : (s.setFlags g).a = s.a := rfl
@[simp] theorem State.setFlags_b (g : Flags) : (s.setFlags g).b = s.b := rfl
@[simp] theorem State.setFlags_c (g : Flags) : (s.setFlags g).c = s.c := rfl
@[simp] theorem State.setFlags_d (g : Flags) : (s.setFlags g).d = s.d := rfl
@[simp] theorem State.setFlags_e (g : Flags) : (s.setFlags g).e = s.e := rfl
@[simp] theorem State.setFlags_h (g : Flags) : (s.setFlags g).h = s.h := rfl
@[simp] theorem State.setFlags_l (g : Flags) : (s.setFlags g).l = s.l := rfl
@[simp] theorem State.setFlags_f (g : Flags) : (s.setFlags g).f = g := rfl
@[simp] theorem State.setFlags_pc (g : Flags) : (s.setFlags g).pc = s.pc := rfl
@[simp] theorem State.setFlags_sp (g : Flags) : (s.setFlags g).sp = s.sp := rfl
@[simp] theorem State.setFlags_fault (g : Flags) : (s.setFlags g).fault = s.fault := rfl
@[simp] theorem State.setFlags_pending (g : Flags) : (s.setFlags g).pending = s.pending := rfl
@[simp] theorem State.setFlags_report (g : Flags) : (s.setFlags g).report = s.report := rfl
@[simp] theorem State.setFlags_get8 (g : Flags) (r : Reg8) : (s.setFlags g).get8 r = s.get8 r := by cases r <;> rfl

/-! ## `State.setPc` -/

@[simp] theorem State.setPc_a (v : Word) : (s.setPc v).a = s.a := rfl
@[simp] theorem State.setPc_b (v : Word) : (s.setPc v).b = s.b := rfl
@[simp] theorem State.setPc_c (v : Word) : (s.setPc v).c = s.c := rfl
@[simp] theorem State.setPc_d (v : Word) : (s.setPc v).d = s.d := rfl
@[simp] theorem State.setPc_e (v : Word) : (s.setPc v).e = s.e := rfl
@[simp] theorem State.setPc_h (v : Word) : (s.setPc v).h = s.h := rfl
@[simp] theorem State.setPc_l (v : Word) : (s.setPc v).l = s.l := rfl
@[simp] theorem State.setPc_f (v : Word) : (s.setPc v).f = s.f := rfl
@[simp] theorem State.setPc_pc (v : Word) : (s.setPc v).pc = v := rfl
@[simp] theorem State.setPc_sp (v : Word) : (s.setPc v).sp = s.sp := rfl
@[simp] theorem State.setPc_fault (v : Word) : (s.setPc v).fault = s.fault := rfl
@[simp] theorem State.setPc_pending (v : Word) : (s.setPc v).pending = s.pending := rfl
@[simp] theorem State.setPc_report (v : Word) : (s.setPc v).report = s.report := rfl
@[simp] theorem State.setPc_get8 (v : Word) (r : Reg8) : (s.setPc v).get8 r = s.get8 r := by cases r <;> rfl

/-! ## `State.setSp` -/

@[simp] theorem State.setSp_a (v : Word) : (s.setSp v).a = s.a := rfl
@[simp] theorem State.setSp_b (v : Word) : (s.setSp v).b = s.b := rfl
@[simp] theorem State.setSp_c (v : Word) : (s.setSp v).c = s.c := rfl
@[simp] theorem State.setSp_d (v : Word) : (s.setSp v).d = s.d := rfl
@[simp] theorem State.setSp_e (v : Word) : (s.setSp v).e = s.e := rfl
@[simp] theorem State.setSp_h (v : Word) : (s.setSp v).h = s.h := rfl
@[simp] theorem State.setSp_l (v : Word) : (s.setSp v).l = s.l := rfl
@[simp] theorem State.setSp_f (v : Word) : (s.setSp v).f = s.f := rfl
@[simp] theorem State.setSp_pc (v : Word) : (s.setSp v).pc = s.pc := rfl
@[simp] theorem State.setSp_sp (v : Word) : (s.setSp v).sp = v := rfl
@[simp] theorem State.setSp_fault (v : Word) : (s.setSp v).fault = s.fault := rfl
@[simp] theorem State.setSp_pending (v : Word) : (s.setSp v).pending = s.pending := rfl
@[simp] theorem State.setSp_report (v : Word) : (s.setSp v).report = s.report := rfl
@[simp] theorem State.setSp_get8 (v : Word) (r : Reg8) : (s.setSp v).get8 r = s.get8 r := by cases r <;> rfl

/-! ## `State.answer` -/

@[simp] theorem State.answer_a (m : Report) : (s.answer m).a = s.a := rfl
@[simp] theorem State.answer_b (m : Report) : (s.answer m).b = s.b := rfl
@[simp] theorem State.answer_c (m : Report) : (s.answer m).c = s.c := rfl
@[simp] theorem State.answer_d (m : Report) : (s.answer m).d = s.d := rfl
@[simp] theorem State.answer_e (m : Report) : (s.answer m).e = s.e := rfl
@[simp] theorem State.answer_h (m : Report) : (s.answer m).h = s.h := rfl
@[simp] theorem State.answer_l (m : Report) : (s.answer m).l = s.l := rfl
@[simp] theorem State.answer_f (m : Report) : (s.answer m).f = s.f := rfl
@[simp] theorem State.answer_pc (m : Report) : (s.answer m).pc = s.pc := rfl
@[simp] theorem State.answer_sp (m : Report) : (s.answer m).sp = s.sp := rfl
@[simp] theorem State.answer_fault (m : Report) : (s.answer m).fault = s.fault := rfl
@[simp] theorem State.answer_pending (m : Report) : (s.answer m).pending = s.pending := rfl
@[simp] theorem State.answer_report (m : Report) : (s.answer m).report = m := rfl
@[simp] theorem State.answer_get8 (m : Report) (r : Reg8) : (s.answer m).get8 r = s.get8 r := by cases r <;> rfl

/-! ## `State.refuse` -/

@[simp] theorem State.refuse_a : (s.refuse).a = s.a := rfl
@[simp] theorem State.refuse_b : (s.refuse).b = s.b := rfl
@[simp] theorem State.refuse_c : (s.refuse).c = s.c := rfl
@[simp] theorem State.refuse_d : (s.refuse).d = s.d := rfl
@[simp] theorem State.refuse_e : (s.refuse).e = s.e := rfl
@[simp] theorem State.refuse_h : (s.refuse).h = s.h := rfl
@[simp] theorem State.refuse_l : (s.refuse).l = s.l := rfl
@[simp] theorem State.refuse_f : (s.refuse).f = s.f := rfl
@[simp] theorem State.refuse_pc : (s.refuse).pc = s.pc := rfl
@[simp] theorem State.refuse_sp : (s.refuse).sp = s.sp := rfl
@[simp] theorem State.refuse_fault : (s.refuse).fault = s.fault := rfl
@[simp] theorem State.refuse_pending : (s.refuse).pending = s.pending := rfl
@[simp] theorem State.refuse_report : (s.refuse).report = .refused .faultLatched := rfl
@[simp] theorem State.refuse_get8 (r : Reg8) : (s.refuse).get8 r = s.get8 r := by cases r <;> rfl

/-! ## `State.raiseFault` -/

@[simp] theorem State.raiseFault_a (info : List Byte) : (s.raiseFault info).a = s.a := rfl
@[simp] theorem State.raiseFault_b (info : List Byte) : (s.raiseFault info).b = s.b := rfl
@[simp] theorem State.raiseFault_c (info : List Byte) : (s.raiseFault info).c = s.c := rfl
@[simp] theorem State.raiseFault_d (info : List Byte) : (s.raiseFault info).d = s.d := rfl
@[simp] theorem State.raiseFault_e (info : List Byte) : (s.raiseFault info).e = s.e := rfl
@[simp] theorem State.raiseFault_h (info : List Byte) : (s.raiseFault info).h = s.h := rfl
@[simp] theorem State.raiseFault_l (info : List Byte) : (s.raiseFault info).l = s.l := rfl
@[simp] theorem State.raiseFault_f (info : List Byte) : (s.raiseFault info).f = s.f := rfl
@[simp] theorem State.raiseFault_pc (info : List Byte) : (s.raiseFault info).pc = s.pc := rfl
@[simp] theorem State.raiseFault_sp (info : List Byte) : (s.raiseFault info).sp = s.sp := rfl
@[simp] theorem State.raiseFault_fault (info : List Byte) : (s.raiseFault info).fault = true := rfl
@[simp] theorem State.raiseFault_pending (info : List Byte) : (s.raiseFault info).pending = s.pending := rfl
@[simp] theorem State.raiseFault_report (info : List Byte) : (s.raiseFault info).report = .faulted (.unmodelledInstruction info) := rfl
@[simp] theorem State.raiseFault_get8 (info : List Byte) (r : Reg8) : (s.raiseFault info).get8 r = s.get8 r := by cases r <;> rfl

/-! ## `State.take` -/

@[simp] theorem State.take_a (rest : List Transaction) : (s.take rest).a = s.a := rfl
@[simp] theorem State.take_b (rest : List Transaction) : (s.take rest).b = s.b := rfl
@[simp] theorem State.take_c (rest : List Transaction) : (s.take rest).c = s.c := rfl
@[simp] theorem State.take_d (rest : List Transaction) : (s.take rest).d = s.d := rfl
@[simp] theorem State.take_e (rest : List Transaction) : (s.take rest).e = s.e := rfl
@[simp] theorem State.take_h (rest : List Transaction) : (s.take rest).h = s.h := rfl
@[simp] theorem State.take_l (rest : List Transaction) : (s.take rest).l = s.l := rfl
@[simp] theorem State.take_f (rest : List Transaction) : (s.take rest).f = s.f := rfl
@[simp] theorem State.take_pc (rest : List Transaction) : (s.take rest).pc = s.pc := rfl
@[simp] theorem State.take_sp (rest : List Transaction) : (s.take rest).sp = s.sp := rfl
@[simp] theorem State.take_fault (rest : List Transaction) : (s.take rest).fault = s.fault := rfl
@[simp] theorem State.take_pending (rest : List Transaction) : (s.take rest).pending = rest := rfl
@[simp] theorem State.take_report (rest : List Transaction) : (s.take rest).report = .done := rfl
@[simp] theorem State.take_get8 (rest : List Transaction) (r : Reg8) : (s.take rest).get8 r = s.get8 r := by cases r <;> rfl

/-! ## `State.resetBy` -/

@[simp] theorem State.resetBy_a (p : ResetParams) : (s.resetBy p).a = p.a := rfl
@[simp] theorem State.resetBy_b (p : ResetParams) : (s.resetBy p).b = p.b := rfl
@[simp] theorem State.resetBy_c (p : ResetParams) : (s.resetBy p).c = p.c := rfl
@[simp] theorem State.resetBy_d (p : ResetParams) : (s.resetBy p).d = p.d := rfl
@[simp] theorem State.resetBy_e (p : ResetParams) : (s.resetBy p).e = p.e := rfl
@[simp] theorem State.resetBy_h (p : ResetParams) : (s.resetBy p).h = p.h := rfl
@[simp] theorem State.resetBy_l (p : ResetParams) : (s.resetBy p).l = p.l := rfl
@[simp] theorem State.resetBy_f (p : ResetParams) : (s.resetBy p).f = p.f := rfl
@[simp] theorem State.resetBy_pc (p : ResetParams) : (s.resetBy p).pc = p.pc := rfl
@[simp] theorem State.resetBy_sp (p : ResetParams) : (s.resetBy p).sp = p.sp := rfl
@[simp] theorem State.resetBy_fault (p : ResetParams) : (s.resetBy p).fault = false := rfl
@[simp] theorem State.resetBy_pending (p : ResetParams) : (s.resetBy p).pending = s.pending := rfl
@[simp] theorem State.resetBy_report (p : ResetParams) : (s.resetBy p).report = .done := rfl

/-! ## `State.get8` and `State.set8` -/

@[simp] theorem State.get8_a : s.get8 .a = s.a := rfl
@[simp] theorem State.get8_b : s.get8 .b = s.b := rfl
@[simp] theorem State.get8_c : s.get8 .c = s.c := rfl
@[simp] theorem State.get8_d : s.get8 .d = s.d := rfl
@[simp] theorem State.get8_e : s.get8 .e = s.e := rfl
@[simp] theorem State.get8_h : s.get8 .h = s.h := rfl
@[simp] theorem State.get8_l : s.get8 .l = s.l := rfl

@[simp] theorem State.set8_a (r : Reg8) (v : Byte) : (s.set8 r v).a = if r = .a then v else s.a := by
  cases r <;> rfl
@[simp] theorem State.set8_b (r : Reg8) (v : Byte) : (s.set8 r v).b = if r = .b then v else s.b := by
  cases r <;> rfl
@[simp] theorem State.set8_c (r : Reg8) (v : Byte) : (s.set8 r v).c = if r = .c then v else s.c := by
  cases r <;> rfl
@[simp] theorem State.set8_d (r : Reg8) (v : Byte) : (s.set8 r v).d = if r = .d then v else s.d := by
  cases r <;> rfl
@[simp] theorem State.set8_e (r : Reg8) (v : Byte) : (s.set8 r v).e = if r = .e then v else s.e := by
  cases r <;> rfl
@[simp] theorem State.set8_h (r : Reg8) (v : Byte) : (s.set8 r v).h = if r = .h then v else s.h := by
  cases r <;> rfl
@[simp] theorem State.set8_l (r : Reg8) (v : Byte) : (s.set8 r v).l = if r = .l then v else s.l := by
  cases r <;> rfl
@[simp] theorem State.set8_f (r : Reg8) (v : Byte) : (s.set8 r v).f = s.f := by cases r <;> rfl
@[simp] theorem State.set8_pc (r : Reg8) (v : Byte) : (s.set8 r v).pc = s.pc := by cases r <;> rfl
@[simp] theorem State.set8_sp (r : Reg8) (v : Byte) : (s.set8 r v).sp = s.sp := by cases r <;> rfl
@[simp] theorem State.set8_fault (r : Reg8) (v : Byte) : (s.set8 r v).fault = s.fault := by cases r <;> rfl
@[simp] theorem State.set8_pending (r : Reg8) (v : Byte) : (s.set8 r v).pending = s.pending := by cases r <;> rfl
@[simp] theorem State.set8_report (r : Reg8) (v : Byte) : (s.set8 r v).report = s.report := by cases r <;> rfl

theorem State.get8_set8 (r q : Reg8) (v : Byte) :
    (s.set8 r v).get8 q = if q = r then v else s.get8 q := by
  cases r <;> cases q <;> rfl

@[simp] theorem State.get8_set8_self (r : Reg8) (v : Byte) : (s.set8 r v).get8 r = v := by
  simp [State.get8_set8]

theorem State.get8_set8_ne {r q : Reg8} (v : Byte) (h : q ≠ r) : (s.set8 r v).get8 q = s.get8 q := by
  simp [State.get8_set8, h]

/-- Two states with equal cells, flags and interface fields are equal. -/
theorem State.ext_get8 {s t : State} (cells : ∀ r, s.get8 r = t.get8 r) (hf : s.f = t.f)
    (hpc : s.pc = t.pc) (hsp : s.sp = t.sp) (hfault : s.fault = t.fault)
    (hpending : s.pending = t.pending) (hreport : s.report = t.report) : s = t := by
  have ha := cells .a
  have hb := cells .b
  have hc := cells .c
  have hd := cells .d
  have he := cells .e
  have hh := cells .h
  have hl := cells .l
  cases s
  cases t
  simp_all

/-! ## `State.setPair` and `State.setAf` -/

@[simp] theorem State.setPair_f (p : Pair) (v : Word) : (s.setPair p v).f = s.f := by
  simp [State.setPair]
@[simp] theorem State.setPair_pc (p : Pair) (v : Word) : (s.setPair p v).pc = s.pc := by
  simp [State.setPair]
@[simp] theorem State.setPair_sp (p : Pair) (v : Word) : (s.setPair p v).sp = s.sp := by
  simp [State.setPair]
@[simp] theorem State.setPair_fault (p : Pair) (v : Word) : (s.setPair p v).fault = s.fault := by
  simp [State.setPair]
@[simp] theorem State.setPair_pending (p : Pair) (v : Word) : (s.setPair p v).pending = s.pending := by
  simp [State.setPair]
@[simp] theorem State.setPair_report (p : Pair) (v : Word) : (s.setPair p v).report = s.report := by
  simp [State.setPair]
@[simp] theorem State.setAf_pc (v : Word) : (s.setAf v).pc = s.pc := by simp [State.setAf]
@[simp] theorem State.setAf_sp (v : Word) : (s.setAf v).sp = s.sp := by simp [State.setAf]
@[simp] theorem State.setAf_fault (v : Word) : (s.setAf v).fault = s.fault := by simp [State.setAf]
@[simp] theorem State.setAf_pending (v : Word) : (s.setAf v).pending = s.pending := by simp [State.setAf]
@[simp] theorem State.setAf_report (v : Word) : (s.setAf v).report = s.report := by simp [State.setAf]

@[simp] theorem State.get8_setPair (p : Pair) (v : Word) (q : Reg8) :
    (s.setPair p v).get8 q =
      if q = pairLo p then loByte v else if q = pairHi p then hiByte v else s.get8 q := by
  simp [State.setPair, State.get8_set8]

@[simp] theorem State.get8_setAf (v : Word) (q : Reg8) :
    (s.setAf v).get8 q = if q = .a then hiByte v else s.get8 q := by
  simp [State.setAf, State.get8_set8]

@[simp] theorem State.setAf_f (v : Word) : (s.setAf v).f = flagsOfByte (loByte v) := by
  simp [State.setAf]

/-! ## Families' write-backs -/

@[simp] theorem State.setAccumulator_f (v : Byte) (g : Flags) : (s.setAccumulator v g).f = g := rfl
@[simp] theorem State.setAccumulator_pc (v : Byte) (g : Flags) : (s.setAccumulator v g).pc = s.pc := rfl
@[simp] theorem State.setAccumulator_sp (v : Byte) (g : Flags) : (s.setAccumulator v g).sp = s.sp := rfl
@[simp] theorem State.setAccumulator_fault (v : Byte) (g : Flags) : (s.setAccumulator v g).fault = s.fault := rfl
@[simp] theorem State.setAccumulator_pending (v : Byte) (g : Flags) : (s.setAccumulator v g).pending = s.pending := rfl
@[simp] theorem State.setAccumulator_report (v : Byte) (g : Flags) : (s.setAccumulator v g).report = s.report := rfl
@[simp] theorem State.get8_setAccumulator (v : Byte) (g : Flags) (q : Reg8) :
    (s.setAccumulator v g).get8 q = if q = .a then v else s.get8 q := by
  simp [State.setAccumulator, State.get8_set8]

@[simp] theorem State.setRotatedA_f (v : Byte) (x : Bool) : (s.setRotatedA v x).f = rotateAFlags x := rfl
@[simp] theorem State.setRotatedA_pc (v : Byte) (x : Bool) : (s.setRotatedA v x).pc = s.pc := rfl
@[simp] theorem State.setRotatedA_sp (v : Byte) (x : Bool) : (s.setRotatedA v x).sp = s.sp := rfl
@[simp] theorem State.setRotatedA_fault (v : Byte) (x : Bool) : (s.setRotatedA v x).fault = s.fault := rfl
@[simp] theorem State.setRotatedA_pending (v : Byte) (x : Bool) : (s.setRotatedA v x).pending = s.pending := rfl
@[simp] theorem State.setRotatedA_report (v : Byte) (x : Bool) : (s.setRotatedA v x).report = s.report := rfl
@[simp] theorem State.get8_setRotatedA (v : Byte) (x : Bool) (q : Reg8) :
    (s.setRotatedA v x).get8 q = if q = .a then v else s.get8 q := by
  simp [State.setRotatedA, State.get8_set8]

@[simp] theorem State.setRotated_f (r : Reg8) (v : Byte) (x : Bool) :
    (s.setRotated r v x).f = rotateFlags v x := rfl
@[simp] theorem State.setRotated_pc (r : Reg8) (v : Byte) (x : Bool) :
    (s.setRotated r v x).pc = s.pc := by
  simp [State.setRotated]
@[simp] theorem State.setRotated_sp (r : Reg8) (v : Byte) (x : Bool) :
    (s.setRotated r v x).sp = s.sp := by
  simp [State.setRotated]
@[simp] theorem State.setRotated_fault (r : Reg8) (v : Byte) (x : Bool) :
    (s.setRotated r v x).fault = s.fault := by
  simp [State.setRotated]
@[simp] theorem State.setRotated_pending (r : Reg8) (v : Byte) (x : Bool) :
    (s.setRotated r v x).pending = s.pending := by
  simp [State.setRotated]
@[simp] theorem State.setRotated_report (r : Reg8) (v : Byte) (x : Bool) :
    (s.setRotated r v x).report = s.report := by
  simp [State.setRotated]
@[simp] theorem State.get8_setRotated (r : Reg8) (v : Byte) (x : Bool) (q : Reg8) :
    (s.setRotated r v x).get8 q = if q = r then v else s.get8 q := by
  simp [State.setRotated, State.get8_set8]

/-! ## The cells by name after each write-back -/

@[simp] theorem State.setPair_a (p : Pair) (v : Word) :
    (s.setPair p v).a = if Reg8.a = pairLo p then loByte v else if Reg8.a = pairHi p then hiByte v else s.a :=
  s.get8_setPair p v .a
@[simp] theorem State.setAf_a (v : Word) :
    (s.setAf v).a = hiByte v :=
  rfl
@[simp] theorem State.setAccumulator_a (v : Byte) (g : Flags) :
    (s.setAccumulator v g).a = v :=
  rfl
@[simp] theorem State.setRotatedA_a (v : Byte) (x : Bool) :
    (s.setRotatedA v x).a = v :=
  rfl
@[simp] theorem State.setRotated_a (q : Reg8) (v : Byte) (x : Bool) :
    (s.setRotated q v x).a = if Reg8.a = q then v else s.a :=
  s.get8_setRotated q v x .a
@[simp] theorem State.setPair_b (p : Pair) (v : Word) :
    (s.setPair p v).b = if Reg8.b = pairLo p then loByte v else if Reg8.b = pairHi p then hiByte v else s.b :=
  s.get8_setPair p v .b
@[simp] theorem State.setAf_b (v : Word) :
    (s.setAf v).b = s.b :=
  rfl
@[simp] theorem State.setAccumulator_b (v : Byte) (g : Flags) :
    (s.setAccumulator v g).b = s.b :=
  rfl
@[simp] theorem State.setRotatedA_b (v : Byte) (x : Bool) :
    (s.setRotatedA v x).b = s.b :=
  rfl
@[simp] theorem State.setRotated_b (q : Reg8) (v : Byte) (x : Bool) :
    (s.setRotated q v x).b = if Reg8.b = q then v else s.b :=
  s.get8_setRotated q v x .b
@[simp] theorem State.setPair_c (p : Pair) (v : Word) :
    (s.setPair p v).c = if Reg8.c = pairLo p then loByte v else if Reg8.c = pairHi p then hiByte v else s.c :=
  s.get8_setPair p v .c
@[simp] theorem State.setAf_c (v : Word) :
    (s.setAf v).c = s.c :=
  rfl
@[simp] theorem State.setAccumulator_c (v : Byte) (g : Flags) :
    (s.setAccumulator v g).c = s.c :=
  rfl
@[simp] theorem State.setRotatedA_c (v : Byte) (x : Bool) :
    (s.setRotatedA v x).c = s.c :=
  rfl
@[simp] theorem State.setRotated_c (q : Reg8) (v : Byte) (x : Bool) :
    (s.setRotated q v x).c = if Reg8.c = q then v else s.c :=
  s.get8_setRotated q v x .c
@[simp] theorem State.setPair_d (p : Pair) (v : Word) :
    (s.setPair p v).d = if Reg8.d = pairLo p then loByte v else if Reg8.d = pairHi p then hiByte v else s.d :=
  s.get8_setPair p v .d
@[simp] theorem State.setAf_d (v : Word) :
    (s.setAf v).d = s.d :=
  rfl
@[simp] theorem State.setAccumulator_d (v : Byte) (g : Flags) :
    (s.setAccumulator v g).d = s.d :=
  rfl
@[simp] theorem State.setRotatedA_d (v : Byte) (x : Bool) :
    (s.setRotatedA v x).d = s.d :=
  rfl
@[simp] theorem State.setRotated_d (q : Reg8) (v : Byte) (x : Bool) :
    (s.setRotated q v x).d = if Reg8.d = q then v else s.d :=
  s.get8_setRotated q v x .d
@[simp] theorem State.setPair_e (p : Pair) (v : Word) :
    (s.setPair p v).e = if Reg8.e = pairLo p then loByte v else if Reg8.e = pairHi p then hiByte v else s.e :=
  s.get8_setPair p v .e
@[simp] theorem State.setAf_e (v : Word) :
    (s.setAf v).e = s.e :=
  rfl
@[simp] theorem State.setAccumulator_e (v : Byte) (g : Flags) :
    (s.setAccumulator v g).e = s.e :=
  rfl
@[simp] theorem State.setRotatedA_e (v : Byte) (x : Bool) :
    (s.setRotatedA v x).e = s.e :=
  rfl
@[simp] theorem State.setRotated_e (q : Reg8) (v : Byte) (x : Bool) :
    (s.setRotated q v x).e = if Reg8.e = q then v else s.e :=
  s.get8_setRotated q v x .e
@[simp] theorem State.setPair_h (p : Pair) (v : Word) :
    (s.setPair p v).h = if Reg8.h = pairLo p then loByte v else if Reg8.h = pairHi p then hiByte v else s.h :=
  s.get8_setPair p v .h
@[simp] theorem State.setAf_h (v : Word) :
    (s.setAf v).h = s.h :=
  rfl
@[simp] theorem State.setAccumulator_h (v : Byte) (g : Flags) :
    (s.setAccumulator v g).h = s.h :=
  rfl
@[simp] theorem State.setRotatedA_h (v : Byte) (x : Bool) :
    (s.setRotatedA v x).h = s.h :=
  rfl
@[simp] theorem State.setRotated_h (q : Reg8) (v : Byte) (x : Bool) :
    (s.setRotated q v x).h = if Reg8.h = q then v else s.h :=
  s.get8_setRotated q v x .h
@[simp] theorem State.setPair_l (p : Pair) (v : Word) :
    (s.setPair p v).l = if Reg8.l = pairLo p then loByte v else if Reg8.l = pairHi p then hiByte v else s.l :=
  s.get8_setPair p v .l
@[simp] theorem State.setAf_l (v : Word) :
    (s.setAf v).l = s.l :=
  rfl
@[simp] theorem State.setAccumulator_l (v : Byte) (g : Flags) :
    (s.setAccumulator v g).l = s.l :=
  rfl
@[simp] theorem State.setRotatedA_l (v : Byte) (x : Bool) :
    (s.setRotatedA v x).l = s.l :=
  rfl
@[simp] theorem State.setRotated_l (q : Reg8) (v : Byte) (x : Bool) :
    (s.setRotated q v x).l = if Reg8.l = q then v else s.l :=
  s.get8_setRotated q v x .l

end Sys2Proof.Machine
end

