-- ==== Sys2Proof/Laws/Ops.lean ====
section
/-! SUPPORT. What each shared operation can do, said once: the gate, the dispatch behind a set latch, the
step by the transaction it performs, and the integer reading of the arithmetic helpers. -/

namespace Sys2Proof.Machine

/-! ## The gate -/

theorem State.transact_clear {s : State} (h : s.fault = false) (t : State) :
    s.transact t = .next t := by
  simp [State.transact, h]

theorem State.transact_latched {s : State} (h : s.fault = true) (t : State) :
    s.transact t = .next s.refuse := by
  simp [State.transact, h]

/-- All the gate can answer. -/
theorem State.transact_cases {s t u : State} (h : s.transact t = .next u) :
    (s.fault = true ∧ u = s.refuse) ∨ (s.fault = false ∧ u = t) := by
  cases hf : s.fault
  · rw [State.transact_clear hf] at h
    cases h
    exact .inr ⟨rfl, rfl⟩
  · rw [State.transact_latched hf] at h
    cases h
    exact .inl ⟨rfl, rfl⟩

/-- Every instruction on a faulted CORE is refused, whatever it is (R213). -/
theorem exec_latched {s : State} (h : s.fault = true) (i : Instr) : exec i s = .next s.refuse := by
  cases i <;> exact State.transact_latched h _

/-! ## The step by the next transaction -/

theorem stepWith_idle (p : ResetParams) {s : State} (h : s.pending = []) : stepWith p s = .next s := by
  simp [stepWith, performNext, h]

theorem stepWith_reset (p : ResetParams) {s : State} {rest : List Transaction}
    (h : s.pending = .reset :: rest) : stepWith p s = .next ((s.take rest).resetBy p) := by
  simp [stepWith, performNext, h]

theorem stepWith_execute (p : ResetParams) {s : State} {i : Instr} {rest : List Transaction}
    (h : s.pending = .execute i :: rest) : stepWith p s = exec i (s.take rest) := by
  simp [stepWith, performNext, h]

theorem stepWith_access (p : ResetParams) {s : State} {q : Access} {rest : List Transaction}
    (h : s.pending = .access q :: rest) : stepWith p s = access q (s.take rest) := by
  simp [stepWith, performNext, h]

theorem stepWith_stream (p : ResetParams) {s : State} {first : Byte} {more : List Byte}
    {rest : List Transaction} (h : s.pending = .stream first more :: rest) :
    stepWith p s = harnessTurn (first :: more) rest s := by
  simp [stepWith, performNext, h]

/-- All a turn of the harness can be. -/
theorem harnessTurn_cases (bytes : List Byte) (rest : List Transaction) (s : State) :
    (s.fault = true ∧ harnessTurn bytes rest s = .next (s.take rest).refuse) ∨
    (s.fault = false ∧ ∃ i len, decode bytes = .modelled i len ∧ harnessTurn bytes rest s =
      exec i ((s.take (queueStream (bytes.drop len) rest)).setPc (s.pc + BitVec.ofNat 16 len))) ∨
    (s.fault = false ∧ ∃ info, decode bytes = .unmodelled info ∧
      harnessTurn bytes rest s = .next ((s.take rest).raiseFault info)) := by
  cases hf : s.fault
  · cases hd : decode bytes with
    | modelled i len => exact .inr (.inl ⟨rfl, i, len, rfl, by simp [harnessTurn, hf, hd]⟩)
    | unmodelled info => exact .inr (.inr ⟨rfl, info, rfl, by simp [harnessTurn, hf, hd]⟩)
  · exact .inl ⟨rfl, by simp [harnessTurn, hf]⟩

/-! ## Integer readings -/

theorem lowNibble_eq (v : Byte) : lowNibble v = v.toNat &&& 0xF := by
  simp [lowNibble]

theorem low12_eq (v : Word) : low12 v = v.toNat &&& 0xFFF := by
  simp [low12]

theorem addResult_toNat (a v : Byte) (k : Nat) :
    (addResult a v k).toNat = (a.toNat + v.toNat + k) % 256 := by
  simp [addResult]

theorem subResult_toNat (a v : Byte) (k : Nat) :
    ((subResult a v k).toNat : Int) = ((a.toNat : Int) - v.toNat - k) % 256 := by
  simp only [subResult, BitVec.toNat_ofInt]
  omega

theorem incResult_toNat (v : Byte) : (incResult v).toNat = (v.toNat + 1) % 256 := by
  simp [incResult]

theorem decResult_toNat (v : Byte) : ((decResult v).toNat : Int) = ((v.toNat : Int) - 1) % 256 := by
  simp only [decResult, BitVec.toNat_sub]
  have := v.isLt
  simp
  omega

theorem addHlResult_toNat (hl v : Word) : (addHlResult hl v).toNat = (hl.toNat + v.toNat) % 65536 := by
  simp [addHlResult]

theorem joinBytes_toNat (hi lo : Byte) : (joinBytes hi lo).toNat = hi.toNat * 256 + lo.toNat := by
  simp only [joinBytes, BitVec.toNat_append]
  rw [← Nat.shiftLeft_add_eq_or_of_lt lo.isLt, Nat.shiftLeft_eq]

theorem hiByte_toNat (v : Word) : (hiByte v).toNat = v.toNat / 256 := by
  have := v.isLt
  simp only [hiByte, BitVec.extractLsb'_toNat, Nat.shiftRight_eq_div_pow]
  omega

theorem loByte_toNat (v : Word) : (loByte v).toNat = v.toNat % 256 := by
  simp [loByte, BitVec.extractLsb'_toNat]

end Sys2Proof.Machine
end

