-- ==== Sys2Proof/Laws/PerInstr.lean ====
section
/-! SUPPORT. One lemma per constructor of `Instr`: its encoding has the width of its row of
spec/opcode_table.json and meets that row's mask and match, written here from the table. -/

/-- The table's `width_bits`, `mask` and `match` of an instruction's row. -/
def Sys2Proof.Laws.MatchesTable.row : Sys2Proof.Instr → Nat × Nat × Nat
  | .add _ => (8, 0xF8, 0x80)
  | .adc _ => (8, 0xF8, 0x88)
  | .sub _ => (8, 0xF8, 0x90)
  | .sbc _ => (8, 0xF8, 0x98)
  | .and _ => (8, 0xF8, 0xA0)
  | .xor _ => (8, 0xF8, 0xA8)
  | .or _ => (8, 0xF8, 0xB0)
  | .cp _ => (8, 0xF8, 0xB8)
  | .inc _ => (8, 0xC7, 0x4)
  | .dec _ => (8, 0xC7, 0x5)
  | .addHl _ => (8, 0xCF, 0x9)
  | .cpl => (8, 0xFF, 0x2F)
  | .scf => (8, 0xFF, 0x37)
  | .ccf => (8, 0xFF, 0x3F)
  | .rlca => (8, 0xFF, 0x7)
  | .rrca => (8, 0xFF, 0xF)
  | .rla => (8, 0xFF, 0x17)
  | .rra => (8, 0xFF, 0x1F)
  | .nop => (8, 0xFF, 0x0)
  | .halt => (8, 0xFF, 0x76)
  | .rlc _ => (16, 0xFFF8, 0xCB00)
  | .rrc _ => (16, 0xFFF8, 0xCB08)
  | .rl _ => (16, 0xFFF8, 0xCB10)
  | .rr _ => (16, 0xFFF8, 0xCB18)
  | .sla _ => (16, 0xFFF8, 0xCB20)
  | .sra _ => (16, 0xFFF8, 0xCB28)
  | .swap _ => (16, 0xFFF8, 0xCB30)
  | .srl _ => (16, 0xFFF8, 0xCB38)
  | .bit _ _ => (16, 0xFFC0, 0xCB40)
  | .res _ _ => (16, 0xFFC0, 0xCB80)
  | .set _ _ => (16, 0xFFC0, 0xCBC0)

/-- The bytes of an encoding as one number, the first byte most significant, as the table numbers it. -/
def Sys2Proof.Laws.MatchesTable.word (bytes : List Sys2Proof.Byte) : Nat :=
  bytes.foldl (fun acc o => acc * 256 + o.toNat) 0

/-- `w & mask == match` for the instruction's row, at the row's width (spec/30_encoding.md section 3). -/
abbrev Sys2Proof.Laws.MatchesTable.Statement (i : Sys2Proof.Instr) : Prop :=
  8 * (Sys2Proof.encode i).length = (Sys2Proof.Laws.MatchesTable.row i).1 ∧
    Sys2Proof.Laws.MatchesTable.word (Sys2Proof.encode i) &&& (Sys2Proof.Laws.MatchesTable.row i).2.1 =
      (Sys2Proof.Laws.MatchesTable.row i).2.2

theorem Sys2Proof.Laws.MatchesTable.add (r : Sys2Proof.Reg8) : Sys2Proof.Laws.MatchesTable.Statement (.add r) := by
  cases r <;> decide

theorem Sys2Proof.Laws.MatchesTable.adc (r : Sys2Proof.Reg8) : Sys2Proof.Laws.MatchesTable.Statement (.adc r) := by
  cases r <;> decide

theorem Sys2Proof.Laws.MatchesTable.sub (r : Sys2Proof.Reg8) : Sys2Proof.Laws.MatchesTable.Statement (.sub r) := by
  cases r <;> decide

theorem Sys2Proof.Laws.MatchesTable.sbc (r : Sys2Proof.Reg8) : Sys2Proof.Laws.MatchesTable.Statement (.sbc r) := by
  cases r <;> decide

theorem Sys2Proof.Laws.MatchesTable.and (r : Sys2Proof.Reg8) : Sys2Proof.Laws.MatchesTable.Statement (.and r) := by
  cases r <;> decide

theorem Sys2Proof.Laws.MatchesTable.xor (r : Sys2Proof.Reg8) : Sys2Proof.Laws.MatchesTable.Statement (.xor r) := by
  cases r <;> decide

theorem Sys2Proof.Laws.MatchesTable.or (r : Sys2Proof.Reg8) : Sys2Proof.Laws.MatchesTable.Statement (.or r) := by
  cases r <;> decide

theorem Sys2Proof.Laws.MatchesTable.cp (r : Sys2Proof.Reg8) : Sys2Proof.Laws.MatchesTable.Statement (.cp r) := by
  cases r <;> decide

theorem Sys2Proof.Laws.MatchesTable.inc (r : Sys2Proof.Reg8) : Sys2Proof.Laws.MatchesTable.Statement (.inc r) := by
  cases r <;> decide

theorem Sys2Proof.Laws.MatchesTable.dec (r : Sys2Proof.Reg8) : Sys2Proof.Laws.MatchesTable.Statement (.dec r) := by
  cases r <;> decide

theorem Sys2Proof.Laws.MatchesTable.addHl (rr : Sys2Proof.Reg16) : Sys2Proof.Laws.MatchesTable.Statement (.addHl rr) := by
  cases rr <;> decide

theorem Sys2Proof.Laws.MatchesTable.cpl : Sys2Proof.Laws.MatchesTable.Statement .cpl := by decide

theorem Sys2Proof.Laws.MatchesTable.scf : Sys2Proof.Laws.MatchesTable.Statement .scf := by decide

theorem Sys2Proof.Laws.MatchesTable.ccf : Sys2Proof.Laws.MatchesTable.Statement .ccf := by decide

theorem Sys2Proof.Laws.MatchesTable.rlca : Sys2Proof.Laws.MatchesTable.Statement .rlca := by decide

theorem Sys2Proof.Laws.MatchesTable.rrca : Sys2Proof.Laws.MatchesTable.Statement .rrca := by decide

theorem Sys2Proof.Laws.MatchesTable.rla : Sys2Proof.Laws.MatchesTable.Statement .rla := by decide

theorem Sys2Proof.Laws.MatchesTable.rra : Sys2Proof.Laws.MatchesTable.Statement .rra := by decide

theorem Sys2Proof.Laws.MatchesTable.nop : Sys2Proof.Laws.MatchesTable.Statement .nop := by decide

theorem Sys2Proof.Laws.MatchesTable.halt : Sys2Proof.Laws.MatchesTable.Statement .halt := by decide

theorem Sys2Proof.Laws.MatchesTable.rlc (r : Sys2Proof.Reg8) : Sys2Proof.Laws.MatchesTable.Statement (.rlc r) := by
  cases r <;> decide

theorem Sys2Proof.Laws.MatchesTable.rrc (r : Sys2Proof.Reg8) : Sys2Proof.Laws.MatchesTable.Statement (.rrc r) := by
  cases r <;> decide

theorem Sys2Proof.Laws.MatchesTable.rl (r : Sys2Proof.Reg8) : Sys2Proof.Laws.MatchesTable.Statement (.rl r) := by
  cases r <;> decide

theorem Sys2Proof.Laws.MatchesTable.rr (r : Sys2Proof.Reg8) : Sys2Proof.Laws.MatchesTable.Statement (.rr r) := by
  cases r <;> decide

theorem Sys2Proof.Laws.MatchesTable.sla (r : Sys2Proof.Reg8) : Sys2Proof.Laws.MatchesTable.Statement (.sla r) := by
  cases r <;> decide

theorem Sys2Proof.Laws.MatchesTable.sra (r : Sys2Proof.Reg8) : Sys2Proof.Laws.MatchesTable.Statement (.sra r) := by
  cases r <;> decide

theorem Sys2Proof.Laws.MatchesTable.swap (r : Sys2Proof.Reg8) : Sys2Proof.Laws.MatchesTable.Statement (.swap r) := by
  cases r <;> decide

theorem Sys2Proof.Laws.MatchesTable.srl (r : Sys2Proof.Reg8) : Sys2Proof.Laws.MatchesTable.Statement (.srl r) := by
  cases r <;> decide

theorem Sys2Proof.Laws.MatchesTable.bit (b : Sys2Proof.BitIndex) (r : Sys2Proof.Reg8) :
    Sys2Proof.Laws.MatchesTable.Statement (.bit b r) := by
  cases r <;> revert b <;> decide

theorem Sys2Proof.Laws.MatchesTable.res (b : Sys2Proof.BitIndex) (r : Sys2Proof.Reg8) :
    Sys2Proof.Laws.MatchesTable.Statement (.res b r) := by
  cases r <;> revert b <;> decide

theorem Sys2Proof.Laws.MatchesTable.set (b : Sys2Proof.BitIndex) (r : Sys2Proof.Reg8) :
    Sys2Proof.Laws.MatchesTable.Statement (.set b r) := by
  cases r <;> revert b <;> decide
end

