-- ==== Sys2Proof/Tests/Slice0.lean ====
section
/-! SUPPORT. The model's own tests: expected values are those of spec/95_test_vectors.md (named by their
vector), of the opcode maps of spec/30_encoding.md, or worked from a rule by hand. After them, a witness
for the hypotheses of every statement that has some. -/

namespace Sys2Proof.Tests

open Sys2Proof.Machine Sys2Proof.Claims

/-- A state with every cell and flag zero, the latch clear and nothing pending. -/
def blank : State :=
  State.resetWith { pc := 0, sp := 0, a := 0, b := 0, c := 0, d := 0, e := 0, h := 0,
                    l := 0, f := { z := false, n := false, h := false, c := false } }

/-- The state an outcome goes on in, if it goes on. -/
def nextOf : Host.Outcome State Fault Refusal → Option State
  | .next t => some t
  | .fault _ => none
  | .refused _ => none

/-- The state after one `execute`. -/
def afterExec (i : Instr) (s : State) : Option State := nextOf (exec i s)

/-- The state after one step, or the same state where the step stops. -/
def stepped (s : State) : State := (nextOf (step s)).getD s

/-- A blank state with some cells and the packed flags set. -/
def holding (cells : List (Reg8 × Byte)) (f : Byte) : State :=
  (cells.foldl (fun s x => s.set8 x.1 x.2) blank).setFlags (flagsOfByte f)

/-- A cell and the packed flags after one `execute`. -/
def cellAndFlags (i : Instr) (s : State) (r : Reg8) : Option (Byte × Byte) :=
  (afterExec i s).map fun t => (t.get8 r, flagsToByte t.f)

/-- HL and the packed flags after one `execute`. -/
def pairAndFlags (i : Instr) (s : State) : Option (Word × Byte) :=
  (afterExec i s).map fun t => (t.getPair .hl, flagsToByte t.f)

/-! ## Well-formedness: each check refuses an ill-formed term -/

theorem test_wf_length_refuses_extra_byte : encodingLengthOk [0x80#8, 0x00#8] = false := by decide
theorem test_wf_length_refuses_lone_page_byte : encodingLengthOk [0xCB#8] = false := by decide
theorem test_wf_length_accepts : encodingLengthOk [0xCB#8, 0x5B#8] = true := by decide
theorem test_wf_field_refuses_110 : regFieldOk 6#3 = false := by decide
theorem test_wf_field_accepts_111 : regFieldOk 7#3 = true := by decide
theorem test_wf_reset_refuses_zero_sp : ResetParams.wf { resetParams with sp := 0#16 } = false := by decide
theorem test_wf_reset_accepts : resetParams.wf = true := by decide

/-- R82 to R84: the selector types are closed, so there is no ill-formed instruction value. -/
theorem test_wf_no_instruction_is_ill_formed (i : Instr) : i.wf = true := by
  cases i <;> first | rfl | simp [Instr.wf]

/-! ## Decoding: words written out from the opcode maps of spec/30_encoding.md -/

theorem test_decode_alu_ops :
    [0x80#8, 0x89#8, 0x92#8, 0x9B#8, 0xA4#8, 0xAD#8, 0xB7#8, 0xB8#8].map (fun o => decode [o]) =
      [.modelled (.add .b) 1, .modelled (.adc .c) 1, .modelled (.sub .d) 1, .modelled (.sbc .e) 1,
        .modelled (.and .h) 1, .modelled (.xor .l) 1, .modelled (.or .a) 1, .modelled (.cp .b) 1] := by
  decide

theorem test_decode_incdec_addhl :
    [0x04#8, 0x3C#8, 0x0D#8, 0x2D#8, 0x09#8, 0x19#8, 0x29#8, 0x39#8].map (fun o => decode [o]) =
      [.modelled (.inc .b) 1, .modelled (.inc .a) 1, .modelled (.dec .c) 1, .modelled (.dec .l) 1,
        .modelled (.addHl .bc) 1, .modelled (.addHl .de) 1, .modelled (.addHl .hl) 1,
        .modelled (.addHl .sp) 1] := by
  decide

theorem test_decode_fixed :
    [0x00#8, 0x07#8, 0x0F#8, 0x17#8, 0x1F#8, 0x2F#8, 0x37#8, 0x3F#8, 0x76#8].map (fun o => decode [o]) =
      [.modelled .nop 1, .modelled .rlca 1, .modelled .rrca 1, .modelled .rla 1, .modelled .rra 1,
        .modelled .cpl 1, .modelled .scf 1, .modelled .ccf 1, .modelled .halt 1] := by
  decide

theorem test_decode_rotates :
    [0x00#8, 0x09#8, 0x12#8, 0x1B#8, 0x24#8, 0x2D#8, 0x37#8, 0x3F#8].map (fun o => decode [0xCB#8, o]) =
      [.modelled (.rlc .b) 2, .modelled (.rrc .c) 2, .modelled (.rl .d) 2, .modelled (.rr .e) 2,
        .modelled (.sla .h) 2, .modelled (.sra .l) 2, .modelled (.swap .a) 2, .modelled (.srl .a) 2] := by
  decide

/-- The three examples of spec/30_encoding.md section 3, and the ends of each row. -/
theorem test_decode_bit_ops :
    [0x5B#8, 0x87#8, 0xFD#8, 0x40#8, 0x7F#8, 0x80#8, 0xBF#8, 0xC0#8, 0xFF#8].map
        (fun o => decode [0xCB#8, o]) =
      [.modelled (.bit 3 .e) 2, .modelled (.res 0 .a) 2, .modelled (.set 7 .l) 2, .modelled (.bit 0 .b) 2,
        .modelled (.bit 7 .a) 2, .modelled (.res 0 .b) 2, .modelled (.res 7 .a) 2, .modelled (.set 0 .b) 2,
        .modelled (.set 7 .a) 2] := by
  decide

/-- V-EN16, V-FT2 to V-FT8, and a page byte with nothing after it. -/
theorem test_decode_refuses :
    [[0x27#8], [0x86#8], [0x40#8], [0x34#8], [0x03#8], [0x3E#8, 0x12#8], [0xC3#8, 0x00#8, 0x01#8],
        [0xCB#8, 0x46#8], [0xCB#8, 0x36#8], [0xCB#8], []].map decode =
      [.unmodelled [0x27#8], .unmodelled [0x86#8], .unmodelled [0x40#8], .unmodelled [0x34#8],
        .unmodelled [0x03#8], .unmodelled [0x3E#8], .unmodelled [0xC3#8], .unmodelled [0xCB#8, 0x46#8],
        .unmodelled [0xCB#8, 0x36#8], .unmodelled [0xCB#8], .unmodelled []] := by
  decide

theorem test_decode_table_words :
    decodeTableWord 8 0x80 = some (.add .b) ∧ decodeTableWord 8 0x09 = some (.addHl .bc) ∧
      decodeTableWord 16 0xCB00 = some (.rlc .b) ∧ decodeTableWord 16 0xCB38 = some (.srl .b) ∧
      decodeTableWord 16 0xCBC0 = some (.set 0 .b) := by
  decide

/-! ## Instructions: vectors of spec/95_test_vectors.md, as cell (or HL) and packed flags after -/

/-- V-ALU1: `ADD B`. -/
theorem test_add_alu1 : cellAndFlags (.add .b) (holding [(.a, 0x3A#8), (.b, 0xC6#8)] 0x00#8) .a =
    some (0x00#8, 0xB0#8) := by decide

/-- V-ALU5: `ADD E`. -/
theorem test_add_alu5 : cellAndFlags (.add .e) (holding [(.a, 0x12#8), (.e, 0x34#8)] 0x10#8) .a =
    some (0x46#8, 0x00#8) := by decide

/-- V-ALU7: `ADC B`. -/
theorem test_adc_alu7 : cellAndFlags (.adc .b) (holding [(.a, 0xFF#8), (.b, 0x00#8)] 0x10#8) .a =
    some (0x00#8, 0xB0#8) := by decide

/-- V-ALU10: `ADC D`. -/
theorem test_adc_alu10 : cellAndFlags (.adc .d) (holding [(.a, 0x01#8), (.d, 0xFF#8)] 0x10#8) .a =
    some (0x01#8, 0x30#8) := by decide

/-- V-ALU14: `SUB E`. -/
theorem test_sub_alu14 : cellAndFlags (.sub .e) (holding [(.a, 0x3E#8), (.e, 0x40#8)] 0x00#8) .a =
    some (0xFE#8, 0x50#8) := by decide

/-- V-ALU15: `SUB A`. -/
theorem test_sub_alu15 : cellAndFlags (.sub .a) (holding [(.a, 0x77#8)] 0x10#8) .a =
    some (0x00#8, 0xC0#8) := by decide

/-- V-ALU19: `SBC B`. -/
theorem test_sbc_alu19 : cellAndFlags (.sbc .b) (holding [(.a, 0x00#8), (.b, 0xFF#8)] 0x10#8) .a =
    some (0x00#8, 0xF0#8) := by decide

/-- V-ALU20: `SBC B`. -/
theorem test_sbc_alu20 : cellAndFlags (.sbc .b) (holding [(.a, 0x10#8), (.b, 0x0F#8)] 0x10#8) .a =
    some (0x00#8, 0xE0#8) := by decide

/-- V-ALU23: `AND L`. -/
theorem test_and_alu23 : cellAndFlags (.and .l) (holding [(.a, 0x5A#8), (.l, 0x3F#8)] 0xD0#8) .a =
    some (0x1A#8, 0x20#8) := by decide

/-- V-ALU25: `AND A`. -/
theorem test_and_alu25 : cellAndFlags (.and .a) (holding [(.a, 0x00#8)] 0x50#8) .a =
    some (0x00#8, 0xA0#8) := by decide

/-- V-ALU26: `OR B`. -/
theorem test_or_alu26 : cellAndFlags (.or .b) (holding [(.a, 0x5A#8), (.b, 0x0F#8)] 0xF0#8) .a =
    some (0x5F#8, 0x00#8) := by decide

/-- V-ALU27: `OR A`. -/
theorem test_or_alu27 : cellAndFlags (.or .a) (holding [(.a, 0x00#8)] 0x70#8) .a =
    some (0x00#8, 0x80#8) := by decide

/-- V-ALU28: `XOR A`. -/
theorem test_xor_alu28 : cellAndFlags (.xor .a) (holding [(.a, 0xFF#8)] 0x70#8) .a =
    some (0x00#8, 0x80#8) := by decide

/-- V-ALU29: `XOR B`. -/
theorem test_xor_alu29 : cellAndFlags (.xor .b) (holding [(.a, 0xFF#8), (.b, 0x0F#8)] 0xF0#8) .a =
    some (0xF0#8, 0x00#8) := by decide

/-- V-ALU30: `CP B`. -/
theorem test_cp_alu30 : cellAndFlags (.cp .b) (holding [(.a, 0x3C#8), (.b, 0x2F#8)] 0x00#8) .a =
    some (0x3C#8, 0x60#8) := by decide

/-- V-ALU32: `CP B`. -/
theorem test_cp_alu32 : cellAndFlags (.cp .b) (holding [(.a, 0x3C#8), (.b, 0x40#8)] 0x00#8) .a =
    some (0x3C#8, 0x50#8) := by decide

/-- V-ID2: `INC A`. -/
theorem test_inc_id2 : cellAndFlags (.inc .a) (holding [(.a, 0xFF#8)] 0x50#8) .a =
    some (0x00#8, 0xB0#8) := by decide

/-- V-ID5: `INC E`. -/
theorem test_inc_id5 : cellAndFlags (.inc .e) (holding [(.e, 0xFF#8)] 0x00#8) .e =
    some (0x00#8, 0xA0#8) := by decide

/-- V-ID6: `DEC C`. -/
theorem test_dec_id6 : cellAndFlags (.dec .c) (holding [(.c, 0x10#8)] 0x10#8) .c =
    some (0x0F#8, 0x70#8) := by decide

/-- V-ID8: `DEC D`. -/
theorem test_dec_id8 : cellAndFlags (.dec .d) (holding [(.d, 0x00#8)] 0x10#8) .d =
    some (0xFF#8, 0x70#8) := by decide

/-- V-AH2: `ADD HL,HL`. -/
theorem test_addHl_ah2 : pairAndFlags (.addHl .hl) (holding [(.h, 0x8A#8), (.l, 0x23#8)] 0x00#8) =
    some (0x1446#16, 0x30#8) := by decide

/-- V-AH3: `ADD HL,SP`. -/
theorem test_addHl_ah3 : pairAndFlags (.addHl .sp) ((holding [(.h, 0x00#8), (.l, 0x01#8)] 0x80#8).setSp 0xFFFF#16) =
    some (0x0000#16, 0xB0#8) := by decide

/-- V-AF1: `CPL`. -/
theorem test_cpl_af1 : cellAndFlags (.cpl) (holding [(.a, 0x35#8)] 0x90#8) .a =
    some (0xCA#8, 0xF0#8) := by decide

/-- V-AF2: `CPL`. -/
theorem test_cpl_af2 : cellAndFlags (.cpl) (holding [(.a, 0xFF#8)] 0x00#8) .a =
    some (0x00#8, 0x60#8) := by decide

/-- V-AF4: `SCF`. -/
theorem test_scf_af4 : cellAndFlags (.scf) (holding [(.a, 0x12#8)] 0xE0#8) .a =
    some (0x12#8, 0x90#8) := by decide

/-- V-AF5: `SCF`. -/
theorem test_scf_af5 : cellAndFlags (.scf) (holding [(.a, 0x12#8)] 0x10#8) .a =
    some (0x12#8, 0x10#8) := by decide

/-- V-AF6: `CCF`. -/
theorem test_ccf_af6 : cellAndFlags (.ccf) (holding [(.a, 0x12#8)] 0xF0#8) .a =
    some (0x12#8, 0x80#8) := by decide

/-- V-AF7: `CCF`. -/
theorem test_ccf_af7 : cellAndFlags (.ccf) (holding [(.a, 0x12#8)] 0x60#8) .a =
    some (0x12#8, 0x10#8) := by decide

/-- V-RS1: `RLC B`. -/
theorem test_rlc_rs1 : cellAndFlags (.rlc .b) (holding [(.b, 0x85#8)] 0xE0#8) .b =
    some (0x0B#8, 0x10#8) := by decide

/-- V-RS3: `RLC A`. -/
theorem test_rlc_rs3 : cellAndFlags (.rlc .a) (holding [(.a, 0x00#8)] 0x00#8) .a =
    some (0x00#8, 0x80#8) := by decide

/-- V-RS4: `RRC C`. -/
theorem test_rrc_rs4 : cellAndFlags (.rrc .c) (holding [(.c, 0x01#8)] 0x60#8) .c =
    some (0x80#8, 0x10#8) := by decide

/-- V-RS5: `RRC C`. -/
theorem test_rrc_rs5 : cellAndFlags (.rrc .c) (holding [(.c, 0x00#8)] 0x10#8) .c =
    some (0x00#8, 0x80#8) := by decide

/-- V-RS6: `RL D`. -/
theorem test_rl_rs6 : cellAndFlags (.rl .d) (holding [(.d, 0x80#8)] 0x00#8) .d =
    some (0x00#8, 0x90#8) := by decide

/-- V-RS8: `RL D`. -/
theorem test_rl_rs8 : cellAndFlags (.rl .d) (holding [(.d, 0x11#8)] 0x10#8) .d =
    some (0x23#8, 0x00#8) := by decide

/-- V-RS9: `RR E`. -/
theorem test_rr_rs9 : cellAndFlags (.rr .e) (holding [(.e, 0x01#8)] 0x00#8) .e =
    some (0x00#8, 0x90#8) := by decide

/-- V-RS10: `RR E`. -/
theorem test_rr_rs10 : cellAndFlags (.rr .e) (holding [(.e, 0x8A#8)] 0x10#8) .e =
    some (0xC5#8, 0x00#8) := by decide

/-- V-RS12: `SLA H`. -/
theorem test_sla_rs12 : cellAndFlags (.sla .h) (holding [(.h, 0x80#8)] 0x00#8) .h =
    some (0x00#8, 0x90#8) := by decide

/-- V-RS13: `SLA H`. -/
theorem test_sla_rs13 : cellAndFlags (.sla .h) (holding [(.h, 0xFF#8)] 0x60#8) .h =
    some (0xFE#8, 0x10#8) := by decide

/-- V-RS14: `SRA L`. -/
theorem test_sra_rs14 : cellAndFlags (.sra .l) (holding [(.l, 0x8A#8)] 0x00#8) .l =
    some (0xC5#8, 0x00#8) := by decide

/-- V-RS15: `SRA L`. -/
theorem test_sra_rs15 : cellAndFlags (.sra .l) (holding [(.l, 0x01#8)] 0x00#8) .l =
    some (0x00#8, 0x90#8) := by decide

/-- V-RS18: `SRL A`. -/
theorem test_srl_rs18 : cellAndFlags (.srl .a) (holding [(.a, 0xFF#8)] 0xE0#8) .a =
    some (0x7F#8, 0x10#8) := by decide

/-- V-RS19: `SRL A`. -/
theorem test_srl_rs19 : cellAndFlags (.srl .a) (holding [(.a, 0x80#8)] 0x10#8) .a =
    some (0x40#8, 0x00#8) := by decide

/-- V-RS20: `SWAP B`. -/
theorem test_swap_rs20 : cellAndFlags (.swap .b) (holding [(.b, 0xAB#8)] 0x10#8) .b =
    some (0xBA#8, 0x00#8) := by decide

/-- V-RS22: `SWAP A`. -/
theorem test_swap_rs22 : cellAndFlags (.swap .a) (holding [(.a, 0xF0#8)] 0xF0#8) .a =
    some (0x0F#8, 0x00#8) := by decide

/-- V-RA2: `RLCA`. -/
theorem test_rlca_ra2 : cellAndFlags (.rlca) (holding [(.a, 0x00#8)] 0xF0#8) .a =
    some (0x00#8, 0x00#8) := by decide

/-- V-RA3: `RLCA`. -/
theorem test_rlca_ra3 : cellAndFlags (.rlca) (holding [(.a, 0x85#8)] 0xE0#8) .a =
    some (0x0B#8, 0x10#8) := by decide

/-- V-RA4: `RRCA`. -/
theorem test_rrca_ra4 : cellAndFlags (.rrca) (holding [(.a, 0x01#8)] 0x80#8) .a =
    some (0x80#8, 0x10#8) := by decide

/-- V-RA5: `RRCA`. -/
theorem test_rrca_ra5 : cellAndFlags (.rrca) (holding [(.a, 0x3B#8)] 0x00#8) .a =
    some (0x9D#8, 0x10#8) := by decide

/-- V-RA7: `RLA`. -/
theorem test_rla_ra7 : cellAndFlags (.rla) (holding [(.a, 0x80#8)] 0x00#8) .a =
    some (0x00#8, 0x10#8) := by decide

/-- V-RA8: `RLA`. -/
theorem test_rla_ra8 : cellAndFlags (.rla) (holding [(.a, 0x95#8)] 0x10#8) .a =
    some (0x2B#8, 0x10#8) := by decide

/-- V-RA10: `RRA`. -/
theorem test_rra_ra10 : cellAndFlags (.rra) (holding [(.a, 0x01#8)] 0x00#8) .a =
    some (0x00#8, 0x10#8) := by decide

/-- V-RA11: `RRA`. -/
theorem test_rra_ra11 : cellAndFlags (.rra) (holding [(.a, 0x81#8)] 0x10#8) .a =
    some (0xC0#8, 0x10#8) := by decide

/-- V-BT1: `BIT 3,B`. -/
theorem test_bit_bt1 : cellAndFlags (.bit 3 .b) (holding [(.b, 0xFF#8)] 0x50#8) .b =
    some (0xFF#8, 0x30#8) := by decide

/-- V-BT3: `BIT 0,L`. -/
theorem test_bit_bt3 : cellAndFlags (.bit 0 .l) (holding [(.l, 0xFE#8)] 0x00#8) .l =
    some (0xFE#8, 0xA0#8) := by decide

/-- V-BT6: `SET 3,A`. -/
theorem test_set_bt6 : cellAndFlags (.set 3 .a) (holding [(.a, 0x80#8)] 0xF0#8) .a =
    some (0x88#8, 0xF0#8) := by decide

/-- V-BT8: `SET 0,C`. -/
theorem test_set_bt8 : cellAndFlags (.set 0 .c) (holding [(.c, 0x01#8)] 0xA0#8) .c =
    some (0x01#8, 0xA0#8) := by decide

/-- V-BT9: `RES 7,A`. -/
theorem test_res_bt9 : cellAndFlags (.res 7 .a) (holding [(.a, 0x80#8)] 0xF0#8) .a =
    some (0x00#8, 0xF0#8) := by decide

/-- V-BT11: `RES 1,L`. -/
theorem test_res_bt11 : cellAndFlags (.res 1 .l) (holding [(.l, 0x3B#8)] 0x50#8) .l =
    some (0x39#8, 0x50#8) := by decide

/-- V-NH1: `NOP`. -/
theorem test_nop_nh1 : cellAndFlags (.nop) (holding [(.a, 0x12#8)] 0xF0#8) .a =
    some (0x12#8, 0xF0#8) := by decide

/-- V-NH2: `HALT`. -/
theorem test_halt_nh2 : cellAndFlags (.halt) (holding [(.a, 0x12#8)] 0xF0#8) .a =
    some (0x12#8, 0xF0#8) := by decide

/-! ## The flags codec, the views and the accessors -/

/-- V-FC7, V-FC10, V-FC11 and V-FC12. -/
theorem test_flags_codec :
    flagsToByte { z := true, n := false, h := true, c := true } = 0xB0#8 ∧
      flagsOfByte 0xA5#8 = { z := true, n := false, h := true, c := false } ∧
      flagsOfByte 0x5A#8 = { z := false, n := true, h := false, c := true } ∧
      flagsToByte (flagsOfByte 0x3C#8) = 0x30#8 := by
  decide

/-- V-PV1, V-PV4. -/
theorem test_views_read :
    (holding [(.b, 0x22#8), (.c, 0x33#8)] 0x00#8).getPair .bc = 0x2233#16 ∧
      (holding [(.a, 0x11#8)] 0x00#8).getAf = 0x1100#16 := by
  decide

/-- V-PV5. -/
theorem test_views_write : (blank.setPair .bc 0xBEEF#16).b = 0xBE#8 ∧ (blank.setPair .bc 0xBEEF#16).c = 0xEF#8 := by
  decide

/-- V-PV9. -/
theorem test_af_write : (blank.setAf 0x9A5F#16).a = 0x9A#8 ∧ (blank.setAf 0x9A5F#16).getAf = 0x9A50#16 := by
  decide

/-- V-AC2. -/
theorem test_access_set_flags :
    (nextOf (access (.setFlags { z := true, n := false, h := false, c := true }) blank)).map
      (fun t => flagsToByte t.f) = some 0x90#8 := by
  decide

/-! ## Steps -/

/-- The faulting start state of section 2.12 with an environment's list. -/
def faulty (pending : List Transaction) : State :=
  { ((holding [(.a, 0x5A#8), (.b, 0x01#8), (.h, 0x12#8), (.l, 0x34#8)] 0x50#8).setSp 0xC000#16).setPc 0x0300#16 with
    pending := pending }

/-- A state whose latch is set. -/
def latched (pending : List Transaction) : State :=
  { faulty pending with fault := true, report := .faulted (.unmodelledInstruction [0x27#8]) }

/-- Program P3, step 4: `ADD HL,HL` at PC = FFFF; PC wraps to 0000. -/
theorem test_step_wraps_pc :
    let s := (holding [(.h, 0x0F#8), (.l, 0x01#8)] 0x80#8).setPc 0xFFFF#16
    let t := stepped { s with pending := [.stream 0x29#8 [0x25#8]] }
    t.pc = 0x0000#16 ∧ t.getPair .hl = 0x1E02#16 ∧ t.pending = [.stream 0x25#8 []] := by
  decide

/-- V-FT6: unmodelled at the first byte. -/
theorem test_step_faults :
    stepped (faulty [.stream 0xC3#8 [0x00#8, 0x01#8]]) =
      { faulty [] with fault := true, report := .faulted (.unmodelledInstruction [0xC3#8]) } := by
  decide

/-- V-FT9 and V-FT10. -/
theorem test_step_refuses :
    stepped (latched [.execute (.inc .b)]) = { latched [] with report := .refused .faultLatched } ∧
      stepped (latched [.access (.set8 .b 0x99#8)]) = { latched [] with report := .refused .faultLatched } := by
  decide

/-- V-FT11. -/
theorem test_step_reads_after_fault :
    (stepped (latched [.access (.get8 .a)])).report = .byte 0x5A#8 ∧
      (stepped (latched [.access .getPc])).report = .word 0x0300#16 := by
  decide

/-- V-FT12. -/
theorem test_step_reset_after_fault : stepped (latched [.reset]) = State.reset := by decide

/-- R88: the word placed for the fetch is the instruction the first step after reset runs. -/
theorem test_fetch_word_runs_first :
    (stepped (State.reset.withFetchWord 16 0xCBC0)).b = 0x01#8 ∧
      (stepped (State.reset.withFetchWord 16 0xCBC0)).pc = 0x0102#16 ∧
      (stepped (State.reset.withFetchWord 16 0xCBC0)).pending = [] := by
  decide

/-! ## Witnesses: a concrete state and operands that meet all hypotheses of a statement -/

theorem witness_DecodeEncodeRoundTrip : (Instr.set 7 .a).wf = true := by decide

theorem witness_DecodedBytesAreTheEncoding :
    decode [0xCB#8, 0xFF#8, 0x00#8] = .modelled (.set 7 .a) 2 := by
  decide

theorem witness_LengthFromFirstByte_two : decode [0xCB#8, 0x00#8] = .modelled (.rlc .b) 2 := by decide
theorem witness_LengthFromFirstByte_one :
    decode [0xBF#8] = .modelled (.cp .a) 1 ∧ (0xBF#8 : Byte) ≠ 0xCB#8 := by
  decide

/-- Each clause at the ends of its range. -/
theorem witness_ModelledOpcodesAreTheFormats :
    (0x80#8 : Byte) ≠ 0xCB#8 ∧ baseModelled 0x80#8 = true ∧ baseModelled 0xBF#8 = true ∧
      baseModelled 0x7F#8 = false ∧ baseModelled 0xC0#8 = false ∧ baseModelled 0x86#8 = false ∧
      baseModelled 0x00#8 = true ∧ extendedModelled 0x00#8 = true ∧ extendedModelled 0xFF#8 = true ∧
      extendedModelled 0x06#8 = false ∧ extendedModelled 0xFE#8 = false := by
  decide

theorem witness_StepRunsDecodedInstruction :
    (faulty [.stream 0xCB#8 [0x30#8, 0x76#8]]).fault = false ∧
      (faulty [.stream 0xCB#8 [0x30#8, 0x76#8]]).pending = .stream 0xCB#8 [0x30#8, 0x76#8] :: [] ∧
      decode (0xCB#8 :: [0x30#8, 0x76#8]) = .modelled (.swap .b) 2 := by
  decide

theorem witness_StepRunsExecuteTransaction :
    (faulty [.execute .halt]).pending = .execute .halt :: [] := by decide

theorem witness_StepPerformsAccessor :
    (faulty [.access .getSp]).pending = .access .getSp :: [] := by decide

theorem witness_StepWithNothingPendingIsIdle : State.reset.pending = [] := by decide

theorem witness_UnmodelledInputRaisesFault :
    (faulty [.stream 0x27#8 []]).fault = false ∧
      (faulty [.stream 0x27#8 []]).pending = .stream 0x27#8 [] :: [] ∧
      decode [0x27#8] = .unmodelled [0x27#8] := by
  decide

/-- One witness for each kind of transaction the statement covers. -/
theorem witness_FaultedCoreRefuses :
    (latched [.execute .nop]).fault = true ∧
      (latched [.execute .nop]).pending = .execute .nop :: [] ∧
      (latched [.stream 0x3C#8 []]).pending = .stream 0x3C#8 [] :: [] ∧
      (latched [.access (.setSp 0#16)]).pending = .access (.setSp 0#16) :: [] ∧
      accessReads (.setSp 0#16) = false := by
  decide

theorem witness_ReadAccessorsAlwaysAnswer :
    (latched [.access .getAf]).pending = .access .getAf :: [] ∧ accessReads .getAf = true := by
  decide

theorem witness_ResetReplacesTheState : (latched [.reset]).pending = .reset :: [] := by decide

theorem witness_ResetStackPointerIsNotZero : resetParams.wf = true := by decide

theorem witness_EveryStepKeepsCoherence :
    (latched [.execute .nop]).Coherent ∧
      stepWith resetParams (latched [.execute .nop]) = .next (stepped (latched [.execute .nop])) :=
  ⟨⟨fun _ => rfl, fun _ => by decide⟩, rfl⟩

theorem witness_OnlyResetLeavesTheFault :
    (latched [.reset]).fault = true ∧
      stepWith resetParams (latched [.reset]) = .next (stepped (latched [.reset])) :=
  ⟨rfl, rfl⟩

theorem witness_OnlyUnmodelledBytesSetTheFault :
    (faulty [.stream 0x27#8 []]).fault = false ∧
      stepWith resetParams (faulty [.stream 0x27#8 []]) = .next (stepped (faulty [.stream 0x27#8 []])) ∧
      (stepped (faulty [.stream 0x27#8 []])).fault = true :=
  ⟨rfl, rfl, by decide⟩

theorem witness_NoInstructionWritesPcOrSp :
    exec (.addHl .sp) (faulty []) = .next ((nextOf (exec (.addHl .sp) (faulty []))).getD blank) := rfl

/-- PC changed by the accessor, by the harness and by reset; SP by the accessor and by reset. -/
theorem witness_WhatWritesPcAndSp :
    (∀ s ∈ [faulty [.access (.setPc 0#16)], faulty [.stream 0xCB#8 [0x30#8]], faulty [.reset]],
      (stepped s).pc ≠ s.pc) ∧
    (∀ s ∈ [faulty [.access (.setSp 0#16)], faulty [.reset]], (stepped s).sp ≠ s.sp) ∧
    stepWith resetParams (faulty [.reset]) = .next (stepped (faulty [.reset])) :=
  ⟨by decide, by decide, rfl⟩

/-- The flags changed by an `execute`, by the harness, by an accessor and by reset. -/
theorem witness_WhatWritesTheFlags :
    (∀ s ∈ [faulty [.execute .ccf], faulty [.stream 0xBF#8 []], faulty [.access (.setAf 0#16)],
      faulty [.reset]], (stepped s).f ≠ s.f) ∧
    stepWith resetParams (faulty [.reset]) = .next (stepped (faulty [.reset])) :=
  ⟨by decide, rfl⟩

theorem witness_NoInstructionReadsZNH :
    (faulty []).fault = false ∧
      exec (.adc .b) (faulty []) = .next ((nextOf (exec (.adc .b) (faulty []))).getD blank) :=
  ⟨rfl, rfl⟩

theorem witness_OnlySevenInstructionsReadCarry :
    (faulty []).fault = false ∧ readsCarry (.inc .b) = false ∧
      exec (.inc .b) (faulty []) = .next ((nextOf (exec (.inc .b) (faulty []))).getD blank) :=
  ⟨rfl, rfl, rfl⟩

/-- Two states that differ in what was answered and in what is still to come. -/
theorem witness_NoHiddenState :
    SameCore (faulty [.execute .cpl]) { faulty [.execute .cpl, .reset] with report := .flag true } ∧
      (faulty [.execute .cpl]).pending = .execute .cpl :: [] ∧
      stepWith resetParams (faulty [.execute .cpl]) = .next (stepped (faulty [.execute .cpl])) :=
  ⟨⟨fun q => by cases q <;> rfl, rfl, rfl, rfl, rfl⟩, rfl, rfl⟩

theorem witness_AccumulatorRotatesDifferOnlyInZero_pairs :
    (Instr.rra, Instr.rr .a) ∈ [(Instr.rlca, Instr.rlc .a), (.rrca, .rrc .a), (.rla, .rl .a), (.rra, .rr .a)] := by
  decide

theorem witness_BitOperationLaws_indexes : (0 : BitIndex) ≠ 7 := by decide

theorem witness_PairViews_halves :
    (Pair.hl, Reg8.h, Reg8.l) ∈ [(Pair.bc, Reg8.b, Reg8.c), (.de, .d, .e), (.hl, .h, .l)] := by
  decide

/-! The statements whose one hypothesis on the state is that the latch is clear. -/

theorem witness_AddRegister : (faulty []).fault = false := by decide
theorem witness_AddRegisterWithCarry : (faulty []).fault = false := by decide
theorem witness_SubtractRegister : (faulty []).fault = false := by decide
theorem witness_SubtractRegisterWithCarry : (faulty []).fault = false := by decide
theorem witness_AndRegister : (faulty []).fault = false := by decide
theorem witness_OrRegister : (faulty []).fault = false := by decide
theorem witness_XorRegister : (faulty []).fault = false := by decide
theorem witness_CompareRegister : (faulty []).fault = false := by decide
theorem witness_IncrementRegister : (faulty []).fault = false := by decide
theorem witness_DecrementRegister : (faulty []).fault = false := by decide
theorem witness_AddToHl : (faulty []).fault = false := by decide
theorem witness_ComplementAccumulator : (faulty []).fault = false := by decide
theorem witness_SetAndComplementCarry : (faulty []).fault = false := by decide
theorem witness_RotateCircular : (faulty []).fault = false := by decide
theorem witness_RotateThroughCarry : (faulty []).fault = false := by decide
theorem witness_ShiftRegister : (faulty []).fault = false := by decide
theorem witness_SwapNibblesOfRegister : (faulty []).fault = false := by decide
theorem witness_RotateAndShiftLaws : (faulty []).fault = false := by decide
theorem witness_RotateAccumulatorCircular : (faulty []).fault = false := by decide
theorem witness_RotateAccumulatorThroughCarry : (faulty []).fault = false := by decide
theorem witness_AccumulatorRotatesDifferOnlyInZero : (faulty []).fault = false := by decide
theorem witness_TestBitOfRegister : (faulty []).fault = false := by decide
theorem witness_SetAndResetBitOfRegister : (faulty []).fault = false := by decide
theorem witness_BitOperationLaws : (faulty []).fault = false := by decide
theorem witness_NopIsTheIdentity : (faulty []).fault = false := by decide
theorem witness_HaltIsTheIdentity : (faulty []).fault = false := by decide
theorem witness_CellAccessors : (faulty []).fault = false := by decide
theorem witness_FlagAccessors : (faulty []).fault = false := by decide
theorem witness_PackedFlagByteAccessors : (faulty []).fault = false := by decide
theorem witness_PairViews : (faulty []).fault = false := by decide
theorem witness_AfView : (faulty []).fault = false := by decide
theorem witness_PcAndSpAccessors : (faulty []).fault = false := by decide
theorem witness_EveryInstructionSucceeds : (faulty []).fault = false := by decide

end Sys2Proof.Tests
end

section
/-! PROOFS. The flags codec, the pair views and the register-file accessors (spec/10_state.md): the codec
bit by bit, what each view reads back after a write, what a write leaves alone, and the statements
assembled from these. -/

namespace Sys2Proof.Machine

open Sys2Proof.Claims

/-! ## The flags codec (R23 to R25) -/

/-- The statements' bit `v[i]` is the library's. -/
theorem getLsbD_eq_bitNum {w : Nat} (v : BitVec w) (i : Nat) :
    v.getLsbD i = decide (bitNum v.toNat i = 1) :=
  Nat.testBit_eq_decide_div_mod_eq

theorem flagsToByte_toNat (f : Flags) :
    (flagsToByte f).toNat =
      (if f.z then 0x80 else 0) + (if f.n then 0x40 else 0) + (if f.h then 0x20 else 0) +
        (if f.c then 0x10 else 0) := by
  rcases f with ⟨_ | _, _ | _, _ | _, _ | _⟩ <;> rfl

/-- A flag's mask holds the flag in bit `k` and nothing elsewhere. -/
theorem getLsbD_flagMask (x : Bool) {k : Nat} (hk : k < 8) (i : Nat) :
    (if x then BitVec.twoPow 8 k else 0#8).getLsbD i = (x && decide (k = i)) := by
  cases x <;> simp [BitVec.getLsbD_twoPow, hk]

/-- R23, every bit of the packed byte at once. -/
theorem getLsbD_flagsToByte (f : Flags) (i : Nat) :
    (flagsToByte f).getLsbD i =
      ((f.z && decide (7 = i)) || (f.n && decide (6 = i)) || (f.h && decide (5 = i)) ||
        (f.c && decide (4 = i))) := by
  rw [← getLsbD_flagMask f.z (by decide), ← getLsbD_flagMask f.n (by decide),
    ← getLsbD_flagMask f.h (by decide), ← getLsbD_flagMask f.c (by decide),
    ← BitVec.getLsbD_or, ← BitVec.getLsbD_or, ← BitVec.getLsbD_or]
  rfl

@[simp] theorem flagsOfByte_flagsToByte (f : Flags) : flagsOfByte (flagsToByte f) = f := by
  simp only [flagsOfByte, getLsbD_flagsToByte]
  simp

/-- R25: bits 7 to 4 come back, bits 3 to 0 do not. -/
@[simp] theorem flagsToByte_flagsOfByte (b : Byte) : flagsToByte (flagsOfByte b) = b &&& 0xF0#8 := by
  apply BitVec.eq_of_getLsbD_eq
  intro i hi
  rw [getLsbD_flagsToByte, BitVec.getLsbD_and]
  interval_cases i <;> simp [flagsOfByte]

/-- The two nibble masks are complementary. -/
theorem and_highNibble_eq_self_iff (b : Byte) : b &&& 0xF0#8 = b ↔ b &&& 0x0F#8 = 0#8 := by
  constructor
  · intro h
    calc b &&& 0x0F#8 = b &&& 0xF0#8 &&& 0x0F#8 := by rw [h]
      _ = b &&& (0xF0#8 &&& 0x0F#8) := BitVec.and_assoc ..
      _ = 0#8 := BitVec.and_zero
  · intro h
    calc b &&& 0xF0#8 = b &&& 0xF0#8 ||| b &&& 0x0F#8 := by rw [h, BitVec.or_zero]
      _ = b &&& (0xF0#8 ||| 0x0F#8) := BitVec.and_or_distrib_left.symm
      _ = b := BitVec.and_allOnes

theorem flagsToByte_flagsOfByte_eq_self_iff (b : Byte) :
    flagsToByte (flagsOfByte b) = b ↔ b &&& 0x0F#8 = 0#8 := by
  rw [flagsToByte_flagsOfByte, and_highNibble_eq_self_iff]

@[simp] theorem flagsToByte_and_lowNibble (f : Flags) : flagsToByte f &&& 0x0F#8 = 0#8 := by
  rw [← flagsToByte_flagsOfByte_eq_self_iff, flagsOfByte_flagsToByte]

theorem exists_flagsToByte_eq_iff (b : Byte) : (∃ f, flagsToByte f = b) ↔ b &&& 0x0F#8 = 0#8 := by
  constructor
  · rintro ⟨f, rfl⟩
    exact flagsToByte_and_lowNibble f
  · intro h
    exact ⟨flagsOfByte b, (flagsToByte_flagsOfByte_eq_self_iff b).mpr h⟩

/-! ## Words and their two bytes (R30) -/

@[simp] theorem joinBytes_hiByte_loByte (v : Word) : joinBytes (hiByte v) (loByte v) = v := by
  apply BitVec.eq_of_toNat_eq
  rw [joinBytes_toNat, hiByte_toNat, loByte_toNat]
  exact Nat.div_add_mod' ..

theorem joinBytes_and (hi lo hi' lo' : Byte) :
    joinBytes hi lo &&& joinBytes hi' lo' = joinBytes (hi &&& hi') (lo &&& lo') :=
  BitVec.and_append

theorem loByte_eq_ofNat (v : Word) : loByte v = BitVec.ofNat 8 v.toNat := by
  apply BitVec.eq_of_toNat_eq
  rw [loByte_toNat, BitVec.toNat_ofNat]

/-! ## The views read back (R30, R31) -/

variable (s : State)

theorem pairHi_ne_pairLo (p : Pair) : pairHi p ≠ pairLo p := by
  cases p <;> decide

theorem getPair_toNat (p : Pair) : (s.getPair p).toNat = pairNum s p := by
  rw [State.getPair, joinBytes_toNat]
  cases p <;> rfl

@[simp] theorem getPair_setPair (p : Pair) (v : Word) : (s.setPair p v).getPair p = v := by
  simp [State.getPair, pairHi_ne_pairLo]

theorem getAf_toNat : s.getAf.toNat = num s .a * 256 + (flagsToByte s.f).toNat :=
  joinBytes_toNat ..

/-- R31: bits 3 to 0 of AF are always zero. -/
theorem getAf_and_lowNibble : s.getAf &&& 0x000F#16 = 0#16 :=
  calc s.getAf &&& 0x000F#16 = joinBytes (s.a &&& 0x00#8) (flagsToByte s.f &&& 0x0F#8) :=
        joinBytes_and s.a (flagsToByte s.f) 0x00#8 0x0F#8
    _ = 0#16 := by rw [flagsToByte_and_lowNibble, BitVec.and_zero]; rfl

/-- R31, the law of AF: a write drops bits 3 to 0. -/
theorem getAf_setAf (v : Word) : (s.setAf v).getAf = v &&& 0xFFF0#16 :=
  calc (s.setAf v).getAf = joinBytes (hiByte v) (loByte v &&& 0xF0#8) := by
        rw [State.getAf, State.setAf_a, State.setAf_f, flagsToByte_flagsOfByte]
    _ = joinBytes (hiByte v &&& 0xFF#8) (loByte v &&& 0xF0#8) :=
        congrArg (joinBytes · _) BitVec.and_allOnes.symm
    _ = joinBytes (hiByte v) (loByte v) &&& 0xFFF0#16 := (joinBytes_and _ _ 0xFF#8 0xF0#8).symm
    _ = v &&& 0xFFF0#16 := by rw [joinBytes_hiByte_loByte]

/-! ## What a write leaves alone -/

theorem sameRest_set8 (r : Reg8) (v : Byte) : SameRest s (s.set8 r v) := by
  simp [SameRest]

theorem sameRest_setPair (p : Pair) (v : Word) : SameRest s (s.setPair p v) := by
  simp [SameRest]

theorem sameRest_setAf (v : Word) : SameRest s (s.setAf v) := by
  simp [SameRest]

theorem sameCellsBut_set8 (r : Reg8) (v : Byte) : SameCellsBut r s (s.set8 r v) :=
  fun _ hq => s.get8_set8_ne v hq

theorem sameCellsBut_setAf (v : Word) : SameCellsBut .a s (s.setAf v) := by
  intro q hq
  rw [State.get8_setAf, if_neg hq]

/-- What the cells hold after a write of a pair: its two halves, and elsewhere what they held. -/
theorem setPair_halves (p : Pair) (v : Word) :
    num (s.setPair p v) (pairHi p) = v.toNat / 256 ∧ num (s.setPair p v) (pairLo p) = v.toNat % 256 ∧
      ∀ q, q ≠ pairHi p → q ≠ pairLo p → (s.setPair p v).get8 q = s.get8 q := by
  refine ⟨?_, ?_, fun q hhi hlo => ?_⟩
  · simp [num, pairHi_ne_pairLo, hiByte_toNat]
  · simp [num, loByte_toNat]
  · simp [hhi, hlo]

/-- The table of R30 that the statement on pair views writes out is `pairHi` and `pairLo`. -/
theorem eq_halves_of_mem_table {p : Pair} {hi lo : Reg8}
    (h : (p, hi, lo) ∈ [(Pair.bc, Reg8.b, Reg8.c), (.de, .d, .e), (.hl, .h, .l)]) :
    hi = pairHi p ∧ lo = pairLo p := by
  cases p <;> simpa [pairHi, pairLo] using h

end Sys2Proof.Machine

open Sys2Proof Sys2Proof.Machine Sys2Proof.Claims

/-! ## The statements -/

/-- Settles O54: the codec is read bit by bit, and the last two laws follow from the two round trips. -/
theorem flagsCodecLaws : Obligations.FlagsCodecLaws :=
  ⟨flagsToByte_toNat,
    fun b => ⟨getLsbD_eq_bitNum b 7, getLsbD_eq_bitNum b 6, getLsbD_eq_bitNum b 5, getLsbD_eq_bitNum b 4⟩,
    flagsOfByte_flagsToByte, flagsToByte_flagsOfByte, flagsToByte_flagsOfByte_eq_self_iff,
    exists_flagsToByte_eq_iff⟩

/-- Settles O55: with the latch clear the gate lets the write of the one cell through. -/
theorem cellAccessors : Obligations.CellAccessors := by
  refine ⟨fun _ _ => rfl, fun r v s hclear => ⟨s.set8 r v, State.transact_clear hclear _, ?_⟩⟩
  exact ⟨s.get8_set8_self r v, s.set8_f r v, sameCellsBut_set8 s r v, sameRest_set8 s r v⟩

/-- Settles O56: a read answers a projection of the record, a write passes the gate with the record or
the one flag replaced. -/
theorem flagAccessors : Obligations.FlagAccessors := by
  refine ⟨fun _ => ⟨rfl, rfl, rfl, rfl, rfl⟩, fun s hclear => ?_⟩
  have hset (x : FlagName) (v : Bool) :
      access (.setFlag x v) s = .next (s.setFlags (flagSet s.f x v)) :=
    State.transact_clear hclear _
  exact ⟨fun _ => State.transact_clear hclear _, hset .z, hset .n, hset .h, hset .c⟩

/-- Settles O58: a pair reads as its two cells joined, and a write of it is a write of their halves. -/
theorem pairViews : Obligations.PairViews := by
  refine ⟨fun p s => ⟨s.getPair p, rfl, getPair_toNat s p⟩, fun p v s hclear => ?_⟩
  refine ⟨s.setPair p v, State.transact_clear hclear _, ?_, fun hi lo hmem => ?_,
    s.setPair_f p v, sameRest_setPair s p v⟩
  · rw [← getPair_toNat, getPair_setPair]
  · obtain ⟨rfl, rfl⟩ := eq_halves_of_mem_table hmem
    exact setPair_halves s p v

/-- Settles O59: AF is A joined with the packed flags, and the codec's round trip is what drops the low
nibble of a write. -/
theorem afView : Obligations.AfView := by
  refine ⟨fun s => ⟨s.getAf, rfl, getAf_toNat s, getAf_and_lowNibble s⟩, fun v s hclear => ?_⟩
  refine ⟨s.setAf v, State.transact_clear hclear _, hiByte_toNat v, ?_, ?_,
    sameCellsBut_setAf s v, sameRest_setAf s v⟩
  · rw [State.setAf_f, loByte_eq_ofNat]
  · rw [← getAf_setAf s]
    rfl

/-- Settles O60: no value is singled out, so a clear latch is all a write of PC or SP needs. -/
theorem pcAndSpAccessors : Obligations.PcAndSpAccessors :=
  ⟨fun _ => ⟨rfl, rfl⟩, fun _ _ hclear =>
    ⟨State.transact_clear hclear _, State.transact_clear hclear _⟩⟩
end

section
/-! PROOFS. 8-bit accumulator arithmetic and logic (spec/40_alu8.md): the flags over integers, what the
write-back of the accumulator leaves alone, one lemma for each of the three shapes of an operation (sum,
difference, logic), and the statements as uses of them. -/

namespace Sys2Proof.Machine

open Sys2Proof.Claims

/-! ## The flags over integers (R110 to R119) -/

theorem addFlags_h (a v : Byte) (k : Nat) :
    (addFlags a v k).h = decide ((a.toNat &&& 0xF) + (v.toNat &&& 0xF) + k > 0xF) := by
  rw [addFlags, lowNibble_eq, lowNibble_eq]

theorem subFlags_h (a v : Byte) (k : Nat) :
    (subFlags a v k).h = decide ((a.toNat &&& 0xF) < (v.toNat &&& 0xF) + k) := by
  rw [subFlags, lowNibble_eq, lowNibble_eq]

theorem compareFlags_h (a v : Byte) :
    (compareFlags a v).h = decide ((a.toNat &&& 0xF) < (v.toNat &&& 0xF)) := by
  rw [compareFlags, lowNibble_eq, lowNibble_eq]

theorem compareFlags_z (a v : Byte) : (compareFlags a v).z = decide (a.toNat = v.toNat) := by
  simp [compareFlags, BitVec.toNat_inj, beq_eq_decide]

theorem logicFlags_z (res : Byte) (half : Bool) :
    (logicFlags res half).z = decide (res.toNat = 0) := by
  simp [logicFlags, ← BitVec.toNat_inj, beq_eq_decide]

/-- Two bytes are equal exactly when their difference vanishes modulo 256. -/
theorem sub_emod_eq_zero_iff (a v : Byte) :
    ((a.toNat : Int) - v.toNat) % 256 = 0 ↔ a.toNat = v.toNat := by
  have := a.isLt
  have := v.isLt
  omega

/-- R117: a comparison gives the flags of the subtraction without carry. -/
theorem subFlags_zero (a v : Byte) : subFlags a v 0 = compareFlags a v := by
  have hz : (subFlags a v 0).z = (compareFlags a v).z := by
    simp only [compareFlags_z, subFlags, Nat.cast_zero, sub_zero, sub_emod_eq_zero_iff]
  rw [subFlags, compareFlags, Flags.mk.injEq]
  exact ⟨hz, rfl, rfl, rfl⟩

/-! ## What the write-back of the accumulator and of the flags leaves alone -/

section
variable (s : State)

theorem num_setAccumulator (v : Byte) (g : Flags) : num (s.setAccumulator v g) .a = v.toNat := rfl

theorem sameCellsBut_setAccumulator (v : Byte) (g : Flags) :
    SameCellsBut .a s (s.setAccumulator v g) := by
  intro q hq
  rw [State.get8_setAccumulator, if_neg hq]

theorem sameRest_setAccumulator (v : Byte) (g : Flags) : SameRest s (s.setAccumulator v g) :=
  ⟨rfl, rfl, rfl, rfl, rfl⟩

theorem sameCells_setFlags (g : Flags) : SameCells s (s.setFlags g) :=
  s.setFlags_get8 g

theorem sameRest_setFlags (g : Flags) : SameRest s (s.setFlags g) :=
  ⟨rfl, rfl, rfl, rfl, rfl⟩

end

/-! ## The three shapes of an accumulator operation

Each takes the operation's arm of the dispatch as a hypothesis, so that it serves every instruction of
its shape: the sum and the difference with a carry-in `k`, 0 for the forms that ignore the carry. -/

section
variable {i : Instr} {r : Reg8} {s : State} {k : Nat} (hclear : s.fault = false)
include hclear

/-- R110, R111. -/
theorem exec_of_sum
    (harm : exec i s =
      s.transact (s.setAccumulator (addResult s.a (s.get8 r) k) (addFlags s.a (s.get8 r) k))) :
    ∃ t, exec i s = .next t ∧
      num t .a = (num s .a + num s r + k) % 256 ∧
      t.f.z = decide ((num s .a + num s r + k) % 256 = 0) ∧
      t.f.n = false ∧
      t.f.h = decide ((num s .a &&& 0xF) + (num s r &&& 0xF) + k > 0xF) ∧
      t.f.c = decide (num s .a + num s r + k > 255) ∧
      SameCellsBut .a s t ∧ SameRest s t :=
  ⟨_, harm.trans (State.transact_clear hclear _),
    addResult_toNat s.a (s.get8 r) k, rfl, rfl, addFlags_h s.a (s.get8 r) k, rfl,
    sameCellsBut_setAccumulator s _ _, sameRest_setAccumulator s _ _⟩

/-- R112, R113. -/
theorem exec_of_difference
    (harm : exec i s =
      s.transact (s.setAccumulator (subResult s.a (s.get8 r) k) (subFlags s.a (s.get8 r) k))) :
    ∃ t, exec i s = .next t ∧
      (num t .a : Int) = ((num s .a : Int) - num s r - k) % 256 ∧
      t.f.z = decide (((num s .a : Int) - num s r - k) % 256 = 0) ∧
      t.f.n = true ∧
      t.f.h = decide ((num s .a &&& 0xF) < (num s r &&& 0xF) + k) ∧
      t.f.c = decide (num s .a < num s r + k) ∧
      SameCellsBut .a s t ∧ SameRest s t :=
  ⟨_, harm.trans (State.transact_clear hclear _),
    subResult_toNat s.a (s.get8 r) k, rfl, rfl, subFlags_h s.a (s.get8 r) k, rfl,
    sameCellsBut_setAccumulator s _ _, sameRest_setAccumulator s _ _⟩

/-- R114 to R116: `v` is the result read as an integer. -/
theorem exec_of_logic {res : Byte} {half : Bool} {v : Nat}
    (harm : exec i s = s.transact (s.setAccumulator res (logicFlags res half)))
    (hres : res.toNat = v) :
    ∃ t, exec i s = .next t ∧
      num t .a = v ∧
      t.f.z = decide (v = 0) ∧ t.f.n = false ∧ t.f.h = half ∧ t.f.c = false ∧
      SameCellsBut .a s t ∧ SameRest s t := by
  subst hres
  exact ⟨_, harm.trans (State.transact_clear hclear _),
    num_setAccumulator s res _, logicFlags_z res half, rfl, rfl, rfl,
    sameCellsBut_setAccumulator s _ _, sameRest_setAccumulator s _ _⟩

end

end Sys2Proof.Machine

open Sys2Proof Sys2Proof.Machine Sys2Proof.Claims

/-! ## The statements -/

/-- Settles O28: the sum with carry-in 0. -/
theorem addRegister : Obligations.AddRegister :=
  fun _ _ hclear => exec_of_sum (k := 0) hclear rfl

/-- Settles O29: the sum with the old carry in it. -/
theorem addRegisterWithCarry : Obligations.AddRegisterWithCarry :=
  fun _ s hclear => exec_of_sum (k := carryNum s) hclear rfl

/-- Settles O30: the difference with carry-in 0, which the integers drop. -/
theorem subtractRegister : Obligations.SubtractRegister := by
  intro r s hclear
  have hdiff := exec_of_difference (i := .sub r) (k := 0) hclear rfl
  simpa only [Nat.cast_zero, sub_zero, add_zero] using hdiff

/-- Settles O31: the difference with the old carry in it; the borrow comparisons add it to the right
side unreduced. -/
theorem subtractRegisterWithCarry : Obligations.SubtractRegisterWithCarry :=
  fun _ s hclear => exec_of_difference (k := carryNum s) hclear rfl

/-- Settles O32: the conjunction on bytes is that of their integer readings. -/
theorem andRegister : Obligations.AndRegister :=
  fun r s hclear => exec_of_logic hclear rfl (BitVec.toNat_and s.a (s.get8 r))

/-- Settles O33: likewise for the disjunction, with H cleared. -/
theorem orRegister : Obligations.OrRegister :=
  fun r s hclear => exec_of_logic hclear rfl (BitVec.toNat_or s.a (s.get8 r))

/-- Settles O34: likewise for the exclusive or, with H cleared. -/
theorem xorRegister : Obligations.XorRegister :=
  fun r s hclear => exec_of_logic hclear rfl (BitVec.toNat_xor s.a (s.get8 r))

/-- Settles O35: only the flags are written, and they are those of the subtraction because the two flag
computations agree (`subFlags_zero`). -/
theorem compareRegister : Obligations.CompareRegister := by
  intro r s hclear
  have hsub : exec (.sub r) s = .next _ := State.transact_clear hclear _
  exact ⟨s.setFlags (compareFlags s.a (s.get8 r)), State.transact_clear hclear _,
    compareFlags_z s.a (s.get8 r), rfl, compareFlags_h s.a (s.get8 r), rfl,
    sameCells_setFlags s _, sameRest_setFlags s _, _, hsub, (subFlags_zero s.a (s.get8 r)).symm⟩
end

section
/-! PROOFS. 8-bit increment and decrement (spec/41_incdec.md): the flags over integers, the write of one
cell and of the flags, and the statements as uses of these. -/

namespace Sys2Proof.Machine

open Sys2Proof.Claims

/-! ## The flags over integers (R130, R131) -/

theorem incFlags_z (old : Flags) (v : Byte) :
    (incFlags old v (incResult v)).z = decide ((v.toNat + 1) % 256 = 0) := by
  rw [← incResult_toNat]
  simp [incFlags, ← BitVec.toNat_inj, beq_eq_decide]

theorem incFlags_h (old : Flags) (v res : Byte) :
    (incFlags old v res).h = decide (v.toNat &&& 0xF = 0xF) := by
  simp only [incFlags, lowNibble_eq, beq_eq_decide]

theorem decFlags_z (old : Flags) (v : Byte) :
    (decFlags old v (decResult v)).z = decide (((v.toNat : Int) - 1) % 256 = 0) := by
  rw [← decResult_toNat]
  simp [decFlags, ← BitVec.toNat_inj, beq_eq_decide]

theorem decFlags_h (old : Flags) (v res : Byte) :
    (decFlags old v res).h = decide (v.toNat &&& 0xF = 0x0) := by
  simp only [decFlags, lowNibble_eq, beq_eq_decide]

/-! ## The write of one cell and of the flags -/

section
variable (s : State) (r : Reg8) (v : Byte) (g : Flags)

theorem num_set8_setFlags : num ((s.set8 r v).setFlags g) r = v.toNat := by
  simp [num]

theorem sameCellsBut_set8_setFlags : SameCellsBut r s ((s.set8 r v).setFlags g) := by
  intro q hq
  rw [State.setFlags_get8, State.get8_set8_ne s v hq]

theorem sameRest_set8_setFlags : SameRest s ((s.set8 r v).setFlags g) :=
  sameRest_set8 s r v

end

end Sys2Proof.Machine

open Sys2Proof Sys2Proof.Machine Sys2Proof.Claims

/-! ## The statements -/

/-- Settles O36: the flags are computed from the value before; the carry is the old record's. -/
theorem incrementRegister : Obligations.IncrementRegister := by
  intro r s hclear
  have hnum := num_set8_setFlags s r (incResult (s.get8 r))
  exact ⟨_, State.transact_clear hclear _, (hnum _).trans (incResult_toNat (s.get8 r)),
    incFlags_z s.f (s.get8 r), rfl, incFlags_h s.f (s.get8 r) _, rfl,
    sameCellsBut_set8_setFlags s r _ _, sameRest_set8_setFlags s r _ _⟩

/-- Settles O37: likewise, with the wrap below zero read as an integer modulo 256. -/
theorem decrementRegister : Obligations.DecrementRegister := by
  intro r s hclear
  have hnum := num_set8_setFlags s r (decResult (s.get8 r))
  exact ⟨_, State.transact_clear hclear _,
    (congrArg Nat.cast (hnum _)).trans (decResult_toNat (s.get8 r)),
    decFlags_z s.f (s.get8 r), rfl, decFlags_h s.f (s.get8 r) _, rfl,
    sameCellsBut_set8_setFlags s r _ _, sameRest_set8_setFlags s r _ _⟩
end

section
/-! PROOFS. 16-bit add to HL (spec/42_add_hl.md): the operand and the flags over integers, the write of a
pair and of the flags, and the statement as a use of these. -/

namespace Sys2Proof.Machine

open Sys2Proof.Claims

/-! ## The operand and the flags over integers (R83, R140) -/

theorem get16_toNat (s : State) (rr : Reg16) : (s.get16 rr).toNat = wideNum s rr := by
  cases rr with
  | bc => exact getPair_toNat s .bc
  | de => exact getPair_toNat s .de
  | hl => exact getPair_toNat s .hl
  | sp => rfl

theorem addHlFlags_h (old : Flags) (hl v : Word) :
    (addHlFlags old hl v).h = decide ((hl.toNat &&& 0xFFF) + (v.toNat &&& 0xFFF) > 0xFFF) := by
  rw [addHlFlags, low12_eq, low12_eq]

/-! ## The write of a pair and of the flags -/

section
variable (s : State) (p : Pair) (v : Word) (g : Flags)

theorem pairNum_setPair_setFlags : pairNum ((s.setPair p v).setFlags g) p = v.toNat :=
  calc pairNum ((s.setPair p v).setFlags g) p = pairNum (s.setPair p v) p := by cases p <;> rfl
    _ = v.toNat := by rw [← getPair_toNat, getPair_setPair]

theorem get8_setPair_setFlags_ne {q : Reg8} (hhi : q ≠ pairHi p) (hlo : q ≠ pairLo p) :
    ((s.setPair p v).setFlags g).get8 q = s.get8 q := by
  rw [State.setFlags_get8, State.get8_setPair, if_neg hlo, if_neg hhi]

theorem sameRest_setPair_setFlags : SameRest s ((s.setPair p v).setFlags g) :=
  sameRest_setPair s p v

end

end Sys2Proof.Machine

open Sys2Proof Sys2Proof.Machine Sys2Proof.Claims

/-! ## The statement -/

/-- Settles O38: one case for the four sources, because the statement's integers are the readings of the
two words added, both of the state before; Z is the old record's. -/
theorem addToHl : Obligations.AddToHl := by
  intro rr s hclear
  rw [← getPair_toNat s .hl, ← get16_toNat s rr]
  exact ⟨_, State.transact_clear hclear _,
    (pairNum_setPair_setFlags s .hl _ _).trans (addHlResult_toNat (s.getPair .hl) (s.get16 rr)),
    rfl, rfl, addHlFlags_h s.f (s.getPair .hl) (s.get16 rr), rfl,
    fun _ hh hl => get8_setPair_setFlags_ne s .hl _ _ hh hl, sameRest_setPair_setFlags s .hl _ _⟩
end

section
/-! PROOFS. Accumulator complement and carry-flag operations (spec/43_acc_flag_ops.md): one lemma for the
two operations that write the flags alone, and the statements as uses of it and of the write rules. -/

namespace Sys2Proof.Machine

open Sys2Proof.Claims

/-- R151, R152: SCF and CCF differ only in the carry `carry` they write. It takes the operation's arm of
the dispatch as a hypothesis, so that it serves both. -/
theorem exec_of_carryOp {i : Instr} {s : State} {carry : Bool} (hclear : s.fault = false)
    (harm : exec i s = s.transact (s.setFlags (carryOpFlags s.f carry))) :
    ∃ t, exec i s = .next t ∧
      t.f.z = s.f.z ∧ t.f.n = false ∧ t.f.h = false ∧ t.f.c = carry ∧
      SameCells s t ∧ SameRest s t :=
  ⟨_, harm.trans (State.transact_clear hclear _), rfl, rfl, rfl, rfl,
    sameCells_setFlags s _, sameRest_setFlags s _⟩

end Sys2Proof.Machine

open Sys2Proof Sys2Proof.Machine Sys2Proof.Claims

/-! ## The statements -/

/-- Settles O39: the exclusive or on bytes is that of their integer readings; Z and C are the old
record's. -/
theorem complementAccumulator : Obligations.ComplementAccumulator := by
  intro s hclear
  have hnum := num_set8_setFlags s .a (s.a ^^^ 0xFF#8) (cplFlags s.f)
  exact ⟨_, State.transact_clear hclear _, hnum.trans (BitVec.toNat_xor s.a 0xFF#8),
    rfl, rfl, rfl, rfl, sameCellsBut_set8_setFlags s .a _ _, sameRest_set8_setFlags s .a _ _⟩

/-- Settles O40: the carry written is true for SCF and the opposite of the old one for CCF. -/
theorem setAndComplementCarry : Obligations.SetAndComplementCarry :=
  fun _ hclear => ⟨exec_of_carryOp hclear rfl, exec_of_carryOp hclear rfl⟩
end

section
/-! PROOFS. Accumulator-only rotates (spec/45_rotate_a.md): the bit movements over integers, one lemma for
the write-back that the four share, and the statements as uses of these. -/

namespace Sys2Proof.Machine

open Sys2Proof.Claims

/-! ## The bit movements over integers (R12, R160 to R166) -/

theorem bitByte_toNat (x : Bool) : (bitByte x).toNat = if x then 1 else 0 := by
  cases x <;> rfl

/-- The bit that enters at the top does not overflow the byte. -/
theorem bitByte_shiftLeft_seven_toNat (x : Bool) :
    (bitByte x <<< 7).toNat = (if x then 1 else 0) <<< 7 := by
  cases x <;> rfl

/-- A bit read as a number is the statements' `v[i]`. -/
theorem ite_getLsbD_eq_bitNum {w : Nat} (v : BitVec w) (i : Nat) :
    (if v.getLsbD i then 1 else 0) = bitNum v.toNat i := by
  have hbit : bitNum v.toNat i = 0 ∨ bitNum v.toNat i = 1 := Nat.mod_two_eq_zero_or_one _
  rw [getLsbD_eq_bitNum]
  rcases hbit with h | h <;> simp [h]

theorem shiftLeftIn_toNat (v : Byte) (low : Bool) :
    (shiftLeftIn v low).toNat = ((v.toNat <<< 1) &&& 0xFF) ||| (if low then 1 else 0) := by
  have hmask : (v.toNat <<< 1) &&& 0xFF = (v.toNat <<< 1) % 2 ^ 8 :=
    Nat.and_two_pow_sub_one_eq_mod _ 8
  rw [shiftLeftIn, BitVec.toNat_or, BitVec.toNat_shiftLeft, bitByte_toNat, hmask]

theorem shiftRightIn_toNat (v : Byte) (high : Bool) :
    (shiftRightIn v high).toNat = (v.toNat >>> 1) ||| ((if high then 1 else 0) <<< 7) := by
  rw [shiftRightIn, BitVec.toNat_or, BitVec.toNat_ushiftRight, bitByte_shiftLeft_seven_toNat]

/-! ## The rotates in a circle: the departing bit is the one that enters (R160, R161) -/

theorem shiftLeftIn_leftOut_toNat (v : Byte) :
    (shiftLeftIn v (leftOut v)).toNat = ((v.toNat <<< 1) &&& 0xFF) ||| bitNum v.toNat 7 := by
  rw [shiftLeftIn_toNat, leftOut, ite_getLsbD_eq_bitNum]

theorem shiftRightIn_rightOut_toNat (v : Byte) :
    (shiftRightIn v (rightOut v)).toNat = (v.toNat >>> 1) ||| (bitNum v.toNat 0 <<< 7) := by
  rw [shiftRightIn_toNat, rightOut, ite_getLsbD_eq_bitNum]

/-! ## The write-back the four share (R184, R185) -/

/-- Z, N and H are cleared whatever the result `v`, and the carry is bit `k` of the old A. It takes the
operation's arm of the dispatch as a hypothesis, so that it serves all four. -/
theorem exec_of_accumulatorRotate {i : Instr} {s : State} {res : Byte} {k v : Nat}
    (hclear : s.fault = false)
    (harm : exec i s = s.transact (s.setRotatedA res (s.a.getLsbD k)))
    (hres : res.toNat = v) :
    ∃ t, exec i s = .next t ∧
      num t .a = v ∧
      t.f.z = false ∧ t.f.n = false ∧ t.f.h = false ∧ t.f.c = decide (bitNum (num s .a) k = 1) ∧
      SameCellsBut .a s t ∧ SameRest s t :=
  ⟨_, harm.trans (State.transact_clear hclear _), (num_set8_setFlags s .a res _).trans hres,
    rfl, rfl, rfl, getLsbD_eq_bitNum s.a k,
    sameCellsBut_set8_setFlags s .a res _, sameRest_set8_setFlags s .a res _⟩

end Sys2Proof.Machine

open Sys2Proof Sys2Proof.Machine Sys2Proof.Claims

/-! ## The statements -/

/-- Settles O46: the bit that enters is the one that leaves. -/
theorem rotateAccumulatorCircular : Obligations.RotateAccumulatorCircular :=
  fun s hclear =>
    ⟨exec_of_accumulatorRotate hclear rfl (shiftLeftIn_leftOut_toNat s.a),
      exec_of_accumulatorRotate hclear rfl (shiftRightIn_rightOut_toNat s.a)⟩

/-- Settles O47: the bit that enters is the carry of the state before. -/
theorem rotateAccumulatorThroughCarry : Obligations.RotateAccumulatorThroughCarry :=
  fun s hclear =>
    ⟨exec_of_accumulatorRotate hclear rfl (shiftLeftIn_toNat s.a s.f.c),
      exec_of_accumulatorRotate hclear rfl (shiftRightIn_toNat s.a s.f.c)⟩
end

section
/-! PROOFS. Bit test, set and reset (spec/46_bit_ops.md): the tested bit and the mask over integers, one
lemma for the two operations that write one cell and no flag, and the statements as uses of these. -/

namespace Sys2Proof.Machine

open Sys2Proof.Claims

/-! ## The tested bit and the mask over integers (R12, R190 to R192) -/

/-- R190: Z is the complement of the tested bit. -/
theorem bitFlags_z (old : Flags) (v : Byte) (b : BitIndex) :
    (bitFlags old (bitOf v b)).z = decide (bitNum v.toNat b.val = 0) := by
  rw [bitFlags, bitOf, getLsbD_eq_bitNum, ← decide_not, decide_eq_decide]
  exact Nat.mod_two_ne_one

/-- A bit index is below 8, so its weight does not overflow the byte. -/
theorem bitMask_toNat (b : BitIndex) : (bitMask b).toNat = 1 <<< b.val := by
  rw [bitMask, ← BitVec.twoPow_eq, BitVec.toNat_twoPow_of_lt b.isLt, Nat.one_shiftLeft]

theorem or_bitMask_toNat (v : Byte) (b : BitIndex) :
    (v ||| bitMask b).toNat = v.toNat ||| (1 <<< b.val) := by
  rw [BitVec.toNat_or, bitMask_toNat]

theorem and_not_bitMask_toNat (v : Byte) (b : BitIndex) :
    (v &&& (0xFF#8 ^^^ bitMask b)).toNat = v.toNat &&& (0xFF ^^^ (1 <<< b.val)) := by
  rw [BitVec.toNat_and, BitVec.toNat_xor, bitMask_toNat]
  rfl

/-! ## The write of one cell and of no flag -/

/-- R191, R192: SET and RES differ only in the result `res` they write; `v` is its integer reading. It
takes the operation's arm of the dispatch as a hypothesis, so that it serves both. -/
theorem exec_of_cellWrite {i : Instr} {r : Reg8} {s : State} {res : Byte} {v : Nat}
    (hclear : s.fault = false)
    (harm : exec i s = s.transact (s.set8 r res))
    (hres : res.toNat = v) :
    ∃ t, exec i s = .next t ∧
      num t r = v ∧
      t.f = s.f ∧ SameCellsBut r s t ∧ SameRest s t :=
  ⟨_, harm.trans (State.transact_clear hclear _),
    (congrArg BitVec.toNat (s.get8_set8_self r res)).trans hres,
    s.set8_f r res, sameCellsBut_set8 s r res, sameRest_set8 s r res⟩

end Sys2Proof.Machine

open Sys2Proof Sys2Proof.Machine Sys2Proof.Claims

/-! ## The statements -/

/-- Settles O49: only the flags are written; the tested bit is read from the cell before, and C is the
old record's. -/
theorem testBitOfRegister : Obligations.TestBitOfRegister :=
  fun b r s hclear =>
    ⟨_, State.transact_clear hclear _, bitFlags_z s.f (s.get8 r) b, rfl, rfl, rfl,
      sameCells_setFlags s _, sameRest_setFlags s _⟩

/-- Settles O50: SET joins the mask of the bit to the cell and RES keeps the bits outside it. -/
theorem setAndResetBitOfRegister : Obligations.SetAndResetBitOfRegister :=
  fun b r s hclear =>
    ⟨exec_of_cellWrite hclear rfl (or_bitMask_toNat (s.get8 r) b),
      exec_of_cellWrite hclear rfl (and_not_bitMask_toNat (s.get8 r) b)⟩
end

section
/-! PROOFS. NOP (spec/47_nop_halt.md): the statement as a use of the rule of the gate. -/

open Sys2Proof Sys2Proof.Machine

/-- Settles O52: NOP hands the gate the state itself, and a clear latch lets it through. -/
theorem nopIsTheIdentity : Obligations.NopIsTheIdentity := by
  intro s hclear
  have harm : exec .nop s = s.transact s := rfl
  exact harm.trans (State.transact_clear hclear s)
end

section
/-! PROOFS. The reference byte encoding (spec/30_encoding.md R85 to R92): the codes of the operand fields,
the fields of an opcode, decoder and encoder format by format, and the statements assembled from these. -/

namespace Sys2Proof

open Sys2Proof.Claims

/-! ## The codes of the operand fields (R87) -/

theorem Reg8.ofCode_eq_some_iff (code : BitVec 3) (r : Reg8) :
    Reg8.ofCode code = some r ↔ r.code = code := by
  revert code
  cases r <;> decide

@[simp] theorem Reg8.ofCode_code (r : Reg8) : Reg8.ofCode r.code = some r :=
  (Reg8.ofCode_eq_some_iff r.code r).mpr rfl

theorem Reg16.ofCode_eq_iff (code : BitVec 2) (rr : Reg16) :
    Reg16.ofCode code = rr ↔ rr.code = code := by
  revert code
  cases rr <;> decide

@[simp] theorem Reg16.code_ofCode (code : BitVec 2) : (Reg16.ofCode code).code = code :=
  (Reg16.ofCode_eq_iff code _).mp rfl

@[simp] theorem BitIndex.ofCode_code (b : BitIndex) : BitIndex.ofCode (BitIndex.code b) = b := rfl

/-! ## The fields of an opcode (R86) -/

section
variable (hi : BitVec 2) (mid lo : BitVec 3)

@[simp] theorem opcode233_hi : (opcode233 hi mid lo).extractLsb' 6 2 = hi :=
  (BitVec.extractLsb'_append_eq_of_le (xhi := hi ++ mid) (by decide)).trans
    BitVec.extractLsb'_append_eq_left

@[simp] theorem opcode233_mid : (opcode233 hi mid lo).extractLsb' 3 3 = mid :=
  (BitVec.extractLsb'_append_eq_of_le (xhi := hi ++ mid) (by decide)).trans
    BitVec.extractLsb'_append_eq_right

@[simp] theorem opcode233_lo : (opcode233 hi mid lo).extractLsb' 0 3 = lo :=
  BitVec.extractLsb'_append_eq_right

end

/-- An opcode is its three fields. -/
theorem opcode233_fields (o : Byte) :
    opcode233 (o.extractLsb' 6 2) (o.extractLsb' 3 3) (o.extractLsb' 0 3) = o := by
  rw [opcode233, BitVec.extractLsb'_append_extractLsb'_eq_extractLsb' (by rfl),
    BitVec.extractLsb'_append_extractLsb'_eq_extractLsb' (by rfl), BitVec.extractLsb'_eq_self]

/-- Format B-ADDHL: its opcode is a 2-bit field between constants. -/
theorem opcode233_addHl_fields {o : Byte} (hhi : o.extractLsb' 6 2 = 0b00#2)
    (hlo : o.extractLsb' 0 4 = 0b1001#4) :
    opcode233 0b00#2 (o.extractLsb' 4 2 ++ 0b1#1) 0b001#3 = o := by
  have hregroup (c : BitVec 2) : opcode233 0b00#2 (c ++ 0b1#1) 0b001#3 = 0b00#2 ++ c ++ 0b1001#4 := by
    revert c
    decide
  rw [hregroup, ← hhi, ← hlo, BitVec.extractLsb'_append_extractLsb'_eq_extractLsb' (by rfl),
    BitVec.extractLsb'_append_extractLsb'_eq_extractLsb' (by rfl), BitVec.extractLsb'_eq_self]

/-! ## Format by format: the encoder -/

theorem encode_aluOf (op : BitVec 3) (r : Reg8) : encode (aluOf op r) = [opcode233 0b10#2 op r.code] := by
  revert op
  cases r <;> decide

theorem encode_rotOf (op : BitVec 3) (r : Reg8) :
    encode (rotOf op r) = [pageByte, opcode233 0b00#2 op r.code] := by
  revert op
  cases r <;> decide

/-- Format B-FIXED: each opcode of its table is the encoding of its instruction. -/
theorem encode_of_fixedOf {o : Byte} {i : Instr} (h : fixedOf o = some i) : encode i = [o] := by
  unfold fixedOf at h
  split at h <;> cases h
  all_goals
    rename_i hopcode
    exact congrArg (fun x => [x]) (BitVec.eq_of_toNat_eq hopcode.symm)

/-- No opcode of format B-FIXED has the upper field of format B-ALU. -/
theorem fixedOf_alu (op lo : BitVec 3) : fixedOf (opcode233 0b10#2 op lo) = none := by
  revert op lo
  decide

/-! ## Format by format: the decoder on the encoder's opcodes -/

theorem decodeBase_alu (op : BitVec 3) (r : Reg8) :
    decodeBase (opcode233 0b10#2 op r.code) = some (aluOf op r) := by
  simp [decodeBase, fixedOf_alu]

theorem decodeBase_inc (r : Reg8) : decodeBase (opcode233 0b00#2 r.code 0b100#3) = some (.inc r) := by
  cases r <;> rfl

theorem decodeBase_dec (r : Reg8) : decodeBase (opcode233 0b00#2 r.code 0b101#3) = some (.dec r) := by
  cases r <;> rfl

theorem decodeBase_addHl (rr : Reg16) :
    decodeBase (opcode233 0b00#2 (rr.code ++ 0b1#1) 0b001#3) = some (.addHl rr) := by
  cases rr <;> rfl

section
variable (op : BitVec 3) (r : Reg8)

theorem decodeExtended_rot : decodeExtended (opcode233 0b00#2 op r.code) = some (rotOf op r) := by
  simp [decodeExtended]

theorem decodeExtended_bit :
    decodeExtended (opcode233 0b01#2 op r.code) = some (.bit (BitIndex.ofCode op) r) := by
  simp [decodeExtended]

theorem decodeExtended_res :
    decodeExtended (opcode233 0b10#2 op r.code) = some (.res (BitIndex.ofCode op) r) := by
  simp [decodeExtended]

theorem decodeExtended_set :
    decodeExtended (opcode233 0b11#2 op r.code) = some (.set (BitIndex.ofCode op) r) := by
  simp [decodeExtended]

end

/-! ## The encoder on the decoder's instructions -/

theorem encode_of_decodeBase {o : Byte} {i : Instr} (h : decodeBase o = some i) : encode i = [o] := by
  unfold decodeBase at h
  split at h
  · next j hfixed =>
    cases h
    exact encode_of_fixedOf hfixed
  · split_ifs at h with halu haddHl hinc hdec
    · obtain ⟨r, hr, rfl⟩ := Option.map_eq_some_iff.mp h
      rw [encode_aluOf, (Reg8.ofCode_eq_some_iff _ r).mp hr, ← halu, opcode233_fields]
    · obtain ⟨hhi, hlo⟩ := haddHl
      cases h
      rw [encode, Reg16.code_ofCode, opcode233_addHl_fields hhi hlo]
    · obtain ⟨hhi, hlo⟩ := hinc
      obtain ⟨r, hr, rfl⟩ := Option.map_eq_some_iff.mp h
      rw [encode, (Reg8.ofCode_eq_some_iff _ r).mp hr, ← hhi, ← hlo, opcode233_fields]
    · obtain ⟨hhi, hlo⟩ := hdec
      obtain ⟨r, hr, rfl⟩ := Option.map_eq_some_iff.mp h
      rw [encode, (Reg8.ofCode_eq_some_iff _ r).mp hr, ← hhi, ← hlo, opcode233_fields]

/-- An opcode of the extended page that decodes names a register in its lower field. -/
theorem exists_fields_of_decodeExtended {o : Byte} {i : Instr} (h : decodeExtended o = some i) :
    ∃ hi op r, o = opcode233 hi op (Reg8.code r) := by
  obtain ⟨r, hr, -⟩ := Option.map_eq_some_iff.mp h
  refine ⟨o.extractLsb' 6 2, o.extractLsb' 3 3, r, ?_⟩
  rw [(Reg8.ofCode_eq_some_iff _ r).mp hr, opcode233_fields]

theorem encode_of_decodeExtended {o : Byte} {i : Instr} (h : decodeExtended o = some i) :
    encode i = [pageByte, o] := by
  obtain ⟨hi, op, r, rfl⟩ := exists_fields_of_decodeExtended h
  have hpage (x : BitVec 2) : x = 0b00#2 ∨ x = 0b01#2 ∨ x = 0b10#2 ∨ x = 0b11#2 := by
    revert x
    decide
  rcases hpage hi with rfl | rfl | rfl | rfl
  · cases (decodeExtended_rot op r).symm.trans h
    exact encode_rotOf op r
  · cases (decodeExtended_bit op r).symm.trans h
    rfl
  · cases (decodeExtended_res op r).symm.trans h
    rfl
  · cases (decodeExtended_set op r).symm.trans h
    rfl

/-! ## The decoder by its page (R85, R88) -/

theorem decode_base {o : Byte} (hpage : o ≠ pageByte) (more : List Byte) :
    decode (o :: more) = .ofOption [o] (decodeBase o) := by
  simp [decode, hpage]

theorem decode_extended (o : Byte) (more : List Byte) :
    decode (pageByte :: o :: more) = .ofOption [pageByte, o] (decodeExtended o) := rfl

theorem Decoded.ofOption_eq_modelled_iff {opcode : List Byte} {x : Option Instr} {i : Instr} {len : Nat} :
    Decoded.ofOption opcode x = .modelled i len ↔ x = some i ∧ len = opcode.length := by
  cases x <;> simp [Decoded.ofOption, eq_comm]

/-- The page byte is no instruction of the base page. -/
theorem ne_pageByte_of_decodeBase {o : Byte} {i : Instr} (h : decodeBase o = some i) : o ≠ pageByte := by
  rintro rfl
  cases h

theorem decode_of_decodeBase {o : Byte} {i : Instr} (h : decodeBase o = some i) (more : List Byte) :
    decode (o :: more) = .modelled i 1 := by
  rw [decode_base (ne_pageByte_of_decodeBase h), h]
  rfl

theorem decode_of_decodeExtended {o : Byte} {i : Instr} (h : decodeExtended o = some i)
    (more : List Byte) : decode (pageByte :: o :: more) = .modelled i 2 := by
  rw [decode_extended, h]
  rfl

/-- All that a decoded instruction can have been read from. -/
theorem decode_modelled_cases {bytes : List Byte} {i : Instr} {len : Nat}
    (h : decode bytes = .modelled i len) :
    (∃ o more, bytes = o :: more ∧ o ≠ pageByte ∧ decodeBase o = some i ∧ len = 1) ∨
    (∃ o more, bytes = pageByte :: o :: more ∧ decodeExtended o = some i ∧ len = 2) := by
  match bytes with
  | [] => cases h
  | o :: more =>
    by_cases hpage : o = pageByte
    · subst hpage
      match more with
      | [] => cases h
      | o :: more => exact .inr ⟨o, more, rfl, Decoded.ofOption_eq_modelled_iff.mp h⟩
    · rw [decode_base hpage] at h
      exact .inl ⟨o, more, rfl, hpage, Decoded.ofOption_eq_modelled_iff.mp h⟩

/-! ## The format tables (R86, R90) -/

theorem decodeBase_isSome (o : Byte) : (decodeBase o).isSome = baseModelled o := by
  revert o
  decide

theorem decodeExtended_isSome (o : Byte) : (decodeExtended o).isSome = extendedModelled o := by
  revert o
  decide

/-- The opcodes of a page are counted by the four values of their upper field. -/
theorem countP_page (p : Nat → Bool) :
    (List.range 256).countP p =
      (List.range 64).countP p + (List.range 64).countP (p <| 64 + ·) +
        (List.range 64).countP (p <| 128 + ·) + (List.range 64).countP (p <| 192 + ·) := by
  have hquarters : List.range 256 = List.range (64 + 64 + 64 + 64) := rfl
  rw [hquarters, List.range_add, List.range_add, List.range_add]
  simp only [List.countP_append, List.countP_map, Function.comp_def]

theorem countP_baseModelled :
    (List.range 256).countP (fun n => baseModelled (BitVec.ofNat 8 n)) = 83 := by
  rw [countP_page]
  decide

theorem countP_extendedModelled :
    (List.range 256).countP (fun n => extendedModelled (BitVec.ofNat 8 n)) = 224 := by
  rw [countP_page]
  decide

/-- An answer for one page, by whether there is an instruction. -/
theorem Decoded.ofOption_cases (opcode : List Byte) (x : Option Instr) :
    if x.isSome then ∃ i, Decoded.ofOption opcode x = .modelled i opcode.length
    else Decoded.ofOption opcode x = .unmodelled opcode := by
  cases x with
  | none => rfl
  | some i => exact ⟨i, rfl⟩

end Sys2Proof

open Sys2Proof Sys2Proof.Claims

/-! ## The statements -/

/-- Settles O1: format by format, with the operation field of B-ALU and X-ROT written out. -/
theorem decodeEncodeRoundTrip : Obligations.DecodeEncodeRoundTrip := by
  intro i after _
  cases i with
  | add r => exact decode_of_decodeBase (decodeBase_alu 0#3 r) after
  | adc r => exact decode_of_decodeBase (decodeBase_alu 1#3 r) after
  | sub r => exact decode_of_decodeBase (decodeBase_alu 2#3 r) after
  | sbc r => exact decode_of_decodeBase (decodeBase_alu 3#3 r) after
  | and r => exact decode_of_decodeBase (decodeBase_alu 4#3 r) after
  | xor r => exact decode_of_decodeBase (decodeBase_alu 5#3 r) after
  | or r => exact decode_of_decodeBase (decodeBase_alu 6#3 r) after
  | cp r => exact decode_of_decodeBase (decodeBase_alu 7#3 r) after
  | inc r => exact decode_of_decodeBase (decodeBase_inc r) after
  | dec r => exact decode_of_decodeBase (decodeBase_dec r) after
  | addHl rr => exact decode_of_decodeBase (decodeBase_addHl rr) after
  | cpl | scf | ccf | rlca | rrca | rla | rra | nop | halt => rfl
  | rlc r => exact decode_of_decodeExtended (decodeExtended_rot 0#3 r) after
  | rrc r => exact decode_of_decodeExtended (decodeExtended_rot 1#3 r) after
  | rl r => exact decode_of_decodeExtended (decodeExtended_rot 2#3 r) after
  | rr r => exact decode_of_decodeExtended (decodeExtended_rot 3#3 r) after
  | sla r => exact decode_of_decodeExtended (decodeExtended_rot 4#3 r) after
  | sra r => exact decode_of_decodeExtended (decodeExtended_rot 5#3 r) after
  | swap r => exact decode_of_decodeExtended (decodeExtended_rot 6#3 r) after
  | srl r => exact decode_of_decodeExtended (decodeExtended_rot 7#3 r) after
  | bit b r => exact decode_of_decodeExtended (decodeExtended_bit b.code r) after
  | res b r => exact decode_of_decodeExtended (decodeExtended_res b.code r) after
  | set b r => exact decode_of_decodeExtended (decodeExtended_set b.code r) after

/-- Settles O2: the encoder inverts each page's decoder. -/
theorem decodedBytesAreTheEncoding : Obligations.DecodedBytesAreTheEncoding := by
  intro bytes i len h
  rcases decode_modelled_cases h with
    ⟨o, more, rfl, -, hbase, rfl⟩ | ⟨o, more, rfl, hextended, rfl⟩
  · rw [encode_of_decodeBase hbase]
    exact ⟨rfl, rfl⟩
  · rw [encode_of_decodeExtended hextended]
    exact ⟨rfl, rfl⟩

/-- Settles O3: each page's decoder reads one byte, in place of the page byte or after it. -/
theorem lengthFromFirstByte : Obligations.LengthFromFirstByte := by
  refine ⟨fun first more i len h => ?_, fun first more hpage => ?_, fun _ _ => rfl⟩
  · rcases decode_modelled_cases h with ⟨o, _, hbytes, hpage, -, rfl⟩ | ⟨o, _, hbytes, -, rfl⟩
    · cases hbytes
      exact (if_neg hpage).symm
    · cases hbytes
      rfl
  · rw [decode_base hpage, decode_base hpage]

/-- Settles O4: each page's decoder answers an instruction on exactly the opcodes of its formats. -/
theorem modelledOpcodesAreTheFormats : Obligations.ModelledOpcodesAreTheFormats := by
  refine ⟨fun o more hpage => ?_, fun o more => ?_, countP_baseModelled,
    countP_extendedModelled⟩
  · rw [decode_base hpage, ← decodeBase_isSome]
    exact Decoded.ofOption_cases [o] (decodeBase o)
  · rw [← decodeExtended_isSome]
    exact Decoded.ofOption_cases [pageByte, o] (decodeExtended o)

/-- Settles O5: the code tables and their inverses, then the rows, closed for each register and index. -/
theorem fieldCodesAndEncodings : Obligations.FieldCodesAndEncodings := by
  refine ⟨by decide, Reg8.ofCode_eq_some_iff, rfl, by decide, Reg16.ofCode_eq_iff,
    fun b => ⟨rfl, BitIndex.ofCode_code b⟩, fun r => ?_, fun b r => ?_, fun rr => ?_, by decide⟩
  · cases r <;> decide
  · revert b
    cases r <;> decide
  · cases rr <;> decide

/-- Settles O6: each word is evaluated. -/
theorem sampleWordsDecode : Obligations.SampleWordsDecode := by
  unfold Obligations.SampleWordsDecode
  decide
end

section
/-! PROOFS. What a step can do: the frame of an instruction and of an accessor, once for each, the
outcomes of a step as one inductive relation, and the statements on the latch, on the report and on what
writes PC, SP and the flags as case splits over it. -/

namespace Sys2Proof.Machine

open Sys2Proof.Claims

/-! ## The frame of an instruction (R26, R33, R35, R202) -/

/-- What an instruction does to the state it is given, as far as it is the same for all of them. -/
structure InstrEffect (i : Instr) (s t : State) : Prop where
  rest : SameRest s t
  flags : writesNoFlag i = true → t.f = s.f

/-- Every instruction hands the gate a state that differs in the cells and, if it writes flags, in the
flags only. -/
theorem exec_eq_transact (i : Instr) (s : State) :
    ∃ t, exec i s = s.transact t ∧ InstrEffect i s t := by
  cases i with
  | nop | halt => exact ⟨s, rfl, ⟨rfl, rfl, rfl, rfl, rfl⟩, fun _ => rfl⟩
  | set b r | res b r => exact ⟨_, rfl, sameRest_set8 s r _, fun _ => s.set8_f r _⟩
  | cp r | bit b r => exact ⟨_, rfl, sameRest_setFlags s _, nofun⟩
  | scf | ccf => exact ⟨_, rfl, sameRest_setFlags s _, nofun⟩
  | addHl rr => exact ⟨_, rfl, sameRest_setPair_setFlags s .hl _ _, nofun⟩
  | add r | adc r | sub r | sbc r | and r | or r | xor r =>
    exact ⟨_, rfl, sameRest_set8_setFlags s .a _ _, nofun⟩
  | cpl | rlca | rrca | rla | rra => exact ⟨_, rfl, sameRest_set8_setFlags s .a _ _, nofun⟩
  | inc r | dec r | rlc r | rrc r | rl r | rr r | sla r | sra r | srl r | swap r =>
    exact ⟨_, rfl, sameRest_set8_setFlags s r _ _, nofun⟩

theorem exec_clear {s : State} (hclear : s.fault = false) (i : Instr) :
    ∃ t, exec i s = .next t ∧ InstrEffect i s t := by
  obtain ⟨t, hgate, heffect⟩ := exec_eq_transact i s
  exact ⟨t, hgate.trans (State.transact_clear hclear t), heffect⟩

/-! ## The frame of an accessor (R40 to R47) -/

/-- The answer is a value: neither plainly done, nor a fault, nor a refusal. -/
def Report.IsValue (m : Report) : Prop :=
  m ≠ .done ∧ (∀ why, m ≠ .faulted why) ∧ (∀ why, m ≠ .refused why)

/-- A read accessor does not go through the gate. -/
theorem access_of_reads {q : Access} (hreads : accessReads q = true) (s : State) :
    ∃ m, access q s = .next (s.answer m) ∧ m.IsValue := by
  cases q with
  | set8 | setFlags | setFlag | setFByte | set16 | setAf | setPc | setSp => cases hreads
  | get8 | getFlags | getFlag | getFByte | get16 | getAf | getPc | getSp =>
    exact ⟨_, rfl, nofun, nofun, nofun⟩

/-- What a write accessor does to the state it is given, as far as it is the same for all of them: PC and
SP change only by the accessor of their own. -/
structure WriteEffect (q : Access) (s t : State) : Prop where
  fault : t.fault = s.fault
  report : t.report = s.report
  flags : accessWritesFlags q = false → t.f = s.f
  pc : t.pc = s.pc ∨ q = .setPc t.pc
  sp : t.sp = s.sp ∨ q = .setSp t.sp

/-- An accessor that keeps PC, SP, the latch and the report can only have written cells and flags. -/
theorem WriteEffect.of_sameRest {q : Access} {s t : State} (hrest : SameRest s t)
    (hflags : accessWritesFlags q = false → t.f = s.f) : WriteEffect q s t := by
  obtain ⟨hpc, hsp, hfault, -, hreport⟩ := hrest
  exact ⟨hfault, hreport, hflags, .inl hpc, .inl hsp⟩

/-- A write accessor goes through the gate. -/
theorem access_of_writes {q : Access} (hwrites : accessReads q = false) (s : State) :
    ∃ t, access q s = s.transact t ∧ WriteEffect q s t := by
  cases q with
  | get8 | getFlags | getFlag | getFByte | get16 | getAf | getPc | getSp => cases hwrites
  | set8 r v => exact ⟨_, rfl, .of_sameRest (sameRest_set8 s r v) fun _ => s.set8_f r v⟩
  | setFlags | setFlag | setFByte => exact ⟨_, rfl, .of_sameRest (sameRest_setFlags s _) nofun⟩
  | set16 p v => exact ⟨_, rfl, .of_sameRest (sameRest_setPair s p v) fun _ => s.setPair_f p v⟩
  | setAf v => exact ⟨_, rfl, .of_sameRest (sameRest_setAf s v) nofun⟩
  | setPc v => exact ⟨s.setPc v, rfl, rfl, rfl, fun _ => rfl, .inr rfl, .inl rfl⟩
  | setSp v => exact ⟨s.setSp v, rfl, rfl, rfl, fun _ => rfl, .inl rfl, .inr rfl⟩

/-! ## The outcomes of a step -/

/-- The state in which the harness executes an instruction of length `len` read from `bytes` (R88): PC is
already past it and the rest of the stream is in front of the list. -/
def State.advance (s : State) (bytes : List Byte) (len : Nat) (rest : List Transaction) : State :=
  (s.take (queueStream (bytes.drop len) rest)).setPc (s.pc + BitVec.ofNat 16 len)

section
variable {bytes : List Byte} {rest : List Transaction} {s : State}

theorem harnessTurn_latched (hlatched : s.fault = true) :
    harnessTurn bytes rest s = .next (s.take rest).refuse := by
  simp [harnessTurn, hlatched]

theorem harnessTurn_modelled {i : Instr} {len : Nat} (hclear : s.fault = false)
    (hdecode : decode bytes = .modelled i len) :
    harnessTurn bytes rest s = exec i (s.advance bytes len rest) := by
  simp [harnessTurn, hclear, hdecode, State.advance]

theorem harnessTurn_unmodelled {info : List Byte} (hclear : s.fault = false)
    (hdecode : decode bytes = .unmodelled info) :
    harnessTurn bytes rest s = .next ((s.take rest).raiseFault info) := by
  simp [harnessTurn, hclear, hdecode]

end

/-- All that a step from `s` can lead to, by the transaction that was pending next. -/
inductive StepOutcome (p : ResetParams) (s : State) : State → Prop
  /-- no transaction was issued (R4) -/
  | idle (hnone : s.pending = []) : StepOutcome p s s
  /-- the reset (R240) -/
  | reset {rest} (hnext : s.pending = .reset :: rest) : StepOutcome p s ((s.take rest).resetBy p)
  /-- a read accessor answered, whatever the latch (R213) -/
  | read {q rest m} (hnext : s.pending = .access q :: rest) (hvalue : m.IsValue) :
      StepOutcome p s ((s.take rest).answer m)
  /-- the latch is set and the transaction has no effect (R213) -/
  | refused {x rest} (hnext : s.pending = x :: rest) (hlatched : s.fault = true) :
      StepOutcome p s (s.take rest).refuse
  /-- a write accessor took effect -/
  | written {q rest t} (hnext : s.pending = .access q :: rest) (hclear : s.fault = false)
      (heffect : WriteEffect q (s.take rest) t) : StepOutcome p s t
  /-- an instruction value was executed (R80) -/
  | executed {i rest t} (hnext : s.pending = .execute i :: rest) (hclear : s.fault = false)
      (heffect : InstrEffect i (s.take rest) t) : StepOutcome p s t
  /-- the harness executed an instruction that it decoded (R88) -/
  | decoded {first more rest i len t} (hnext : s.pending = .stream first more :: rest)
      (hclear : s.fault = false) (hdecode : decode (first :: more) = .modelled i len)
      (heffect : InstrEffect i (s.advance (first :: more) len rest) t) : StepOutcome p s t
  /-- the bytes decode to no instruction and raise the fault (R210, R211) -/
  | faulted {first more rest info} (hnext : s.pending = .stream first more :: rest)
      (hclear : s.fault = false) (hdecode : decode (first :: more) = .unmodelled info) :
      StepOutcome p s ((s.take rest).raiseFault info)

variable (p : ResetParams) {s t : State} {rest : List Transaction}

theorem stepWith_execute_outcome {i : Instr} (hnext : s.pending = .execute i :: rest) :
    ∃ t, stepWith p s = .next t ∧ StepOutcome p s t := by
  rw [stepWith_execute p hnext]
  cases hfault : s.fault with
  | true => exact ⟨_, exec_latched (s := s.take rest) hfault i, .refused hnext hfault⟩
  | false =>
    obtain ⟨t, hexec, heffect⟩ := exec_clear (s := s.take rest) hfault i
    exact ⟨t, hexec, .executed hnext hfault heffect⟩

theorem stepWith_access_outcome {q : Access} (hnext : s.pending = .access q :: rest) :
    ∃ t, stepWith p s = .next t ∧ StepOutcome p s t := by
  rw [stepWith_access p hnext]
  cases hkind : accessReads q with
  | true =>
    obtain ⟨m, hread, hvalue⟩ := access_of_reads hkind (s.take rest)
    exact ⟨_, hread, .read hnext hvalue⟩
  | false =>
    obtain ⟨t, hwrite, heffect⟩ := access_of_writes hkind (s.take rest)
    rw [hwrite]
    cases hfault : s.fault with
    | true => exact ⟨_, State.transact_latched (s := s.take rest) hfault t, .refused hnext hfault⟩
    | false =>
      exact ⟨t, State.transact_clear (s := s.take rest) hfault t, .written hnext hfault heffect⟩

theorem stepWith_stream_outcome {first : Byte} {more : List Byte}
    (hnext : s.pending = .stream first more :: rest) :
    ∃ t, stepWith p s = .next t ∧ StepOutcome p s t := by
  rw [stepWith_stream p hnext]
  rcases harnessTurn_cases (first :: more) rest s with
    ⟨hlatched, hturn⟩ | ⟨hclear, i, len, hdecode, hturn⟩ | ⟨hclear, info, hdecode, hturn⟩
  · exact ⟨_, hturn, .refused hnext hlatched⟩
  · obtain ⟨t, hexec, heffect⟩ := exec_clear (s := s.advance (first :: more) len rest) hclear i
    exact ⟨t, hturn.trans hexec, .decoded hnext hclear hdecode heffect⟩
  · exact ⟨_, hturn, .faulted hnext hclear hdecode⟩

/-- A step always gives a next state, and it is one of the outcomes above. -/
theorem stepWith_outcome (s : State) : ∃ t, stepWith p s = .next t ∧ StepOutcome p s t := by
  cases hpending : s.pending with
  | nil => exact ⟨s, stepWith_idle p hpending, .idle hpending⟩
  | cons x rest =>
    cases x with
    | reset => exact ⟨_, stepWith_reset p hpending, .reset hpending⟩
    | execute i => exact stepWith_execute_outcome p hpending
    | access q => exact stepWith_access_outcome p hpending
    | stream first more => exact stepWith_stream_outcome p hpending

theorem stepOutcome_of_stepWith {p : ResetParams} (hstep : stepWith p s = .next t) :
    StepOutcome p s t := by
  obtain ⟨u, hu, houtcome⟩ := stepWith_outcome p s
  cases hu.symm.trans hstep
  exact houtcome

/-! ## The report and the latch -/

/-- An answer that is a value agrees with either latch. -/
theorem State.Coherent.of_isValue (hvalue : t.report.IsValue) : t.Coherent := by
  obtain ⟨hdone, hfaulted, hrefused⟩ := hvalue
  refine ⟨?_, fun _ => hdone⟩
  rintro (⟨why, h⟩ | ⟨why, h⟩)
  · exact absurd h (hfaulted why)
  · exact absurd h (hrefused why)

/-- So does 'done' with the latch clear. -/
theorem State.Coherent.of_done (hclear : t.fault = false) (hdone : t.report = .done) :
    t.Coherent := by
  simp [State.Coherent, hclear, hdone]

/-- So does anything but 'done' with the latch set. -/
theorem State.Coherent.of_latched (hlatched : t.fault = true) (hreport : t.report ≠ .done) :
    t.Coherent :=
  ⟨fun _ => hlatched, fun _ => hreport⟩

end Sys2Proof.Machine

open Sys2Proof Sys2Proof.Machine Sys2Proof.Claims

/-! ## The statements -/

/-- Settles O7: the model adds words where the statement reduces the sum modulo 65536. -/
theorem stepRunsDecodedInstruction : Obligations.StepRunsDecodedInstruction := by
  intro s first more rest i len hclear hnext hdecode
  have hpc : BitVec.ofNat 16 (s.pc.toNat + len) = s.pc + BitVec.ofNat 16 len := by
    rw [BitVec.ofNat_add, BitVec.ofNat_toNat, BitVec.setWidth_eq]
  rw [hpc]
  exact (stepWith_stream resetParams hnext).trans (harnessTurn_modelled hclear hdecode)

/-- Settles O8: one case of the step. -/
theorem stepRunsExecuteTransaction : Obligations.StepRunsExecuteTransaction :=
  fun _ _ _ hnext => stepWith_execute resetParams hnext

/-- Settles O9: one case of the step. -/
theorem stepPerformsAccessor : Obligations.StepPerformsAccessor :=
  fun _ _ _ hnext => stepWith_access resetParams hnext

/-- Settles O10: one case of the step. -/
theorem stepWithNothingPendingIsIdle : Obligations.StepWithNothingPendingIsIdle :=
  fun p _ hnone => stepWith_idle p hnone

/-- Settles O11: the state whose latch is raised differs from the one taken in the latch and the report
only. -/
theorem unmodelledInputRaisesFault : Obligations.UnmodelledInputRaisesFault := by
  intro s first more rest info hclear hnext hdecode
  exact ⟨_, (stepWith_stream resetParams hnext).trans (harnessTurn_unmodelled hclear hdecode),
    rfl, fun q => by simp, rfl, rfl, rfl, rfl, rfl⟩

/-- Settles O12: each of the three kinds of transaction meets the latch, an instruction and a write
accessor in the gate, a stream in the harness. -/
theorem faultedCoreRefuses : Obligations.FaultedCoreRefuses := by
  intro s x rest hlatched hnext hkind
  have htaken : (s.take rest).fault = true := hlatched
  cases x with
  | reset => exact hkind.elim
  | execute i => exact (stepWith_execute resetParams hnext).trans (exec_latched htaken i)
  | access q =>
    obtain ⟨t, hgate, -⟩ := access_of_writes hkind (s.take rest)
    exact (stepWith_access resetParams hnext).trans (hgate.trans (State.transact_latched htaken t))
  | stream first more =>
    exact (stepWith_stream resetParams hnext).trans (harnessTurn_latched hlatched)

/-- Settles O13: a read accessor does not ask for the latch. -/
theorem readAccessorsAlwaysAnswer : Obligations.ReadAccessorsAlwaysAnswer := by
  intro s q rest hnext hreads
  obtain ⟨m, hread, hvalue⟩ := access_of_reads hreads (s.take rest)
  exact ⟨_, m, (stepWith_access resetParams hnext).trans hread, rfl, hvalue⟩

/-- Settles O14: one case of the step, read field by field. -/
theorem resetReplacesTheState : Obligations.ResetReplacesTheState :=
  fun p _ _ hnext =>
    ⟨_, stepWith_reset p hnext, rfl, rfl, rfl, rfl, rfl, rfl, rfl, rfl, rfl, rfl, rfl, rfl, rfl⟩

/-- Settles O15: the reset state holds the parameter, and the model's own parameters are well formed. -/
theorem resetStackPointerIsNotZero : Obligations.ResetStackPointerIsNotZero := by
  have hreset (p : ResetParams) (hwf : p.wf = true) :
      (State.resetWith p).sp ≠ 0#16 ∧ (State.resetWith p).fault = false :=
    ⟨bne_iff_ne.mp hwf, rfl⟩
  exact ⟨hreset, hreset resetParams (by decide)⟩

/-- Settles O16: the reset state is done with the latch clear. -/
theorem resetIsCoherent : Obligations.ResetIsCoherent :=
  ⟨.of_done rfl rfl, fun _ => .of_done rfl rfl⟩

/-- Settles O17: each outcome either answers a value, or is done with the latch clear, or reports the
fault or a refusal with the latch set; only the idle step needs the invariant of the state before. -/
theorem everyStepKeepsCoherence : Obligations.EveryStepKeepsCoherence := by
  intro p s t hcoherent hstep
  cases stepOutcome_of_stepWith hstep with
  | idle => exact hcoherent
  | reset => exact .of_done rfl rfl
  | read _ hvalue => exact .of_isValue hvalue
  | refused _ hlatched => exact .of_latched hlatched nofun
  | written _ hclear heffect => exact .of_done (heffect.fault.trans hclear) heffect.report
  | executed _ hclear heffect | decoded _ hclear _ heffect =>
    obtain ⟨-, -, hfault, -, hreport⟩ := heffect.rest
    exact .of_done (hfault.trans hclear) hreport
  | faulted => exact .of_latched rfl nofun

/-- Settles O18: with the latch set a step is idle, a reset, a read or a refusal. -/
theorem onlyResetLeavesTheFault : Obligations.OnlyResetLeavesTheFault := by
  intro p s t hlatched hstep
  have hset {P : Prop} (hclear : s.fault = false) : P := by simp [hlatched] at hclear
  cases stepOutcome_of_stepWith hstep with
  | idle => exact .inl ⟨fun _ => rfl, rfl, rfl, rfl, rfl⟩
  | reset hnext => exact .inr ⟨_, hnext, rfl⟩
  | read | refused => exact .inl ⟨fun q => by simp, rfl, rfl, rfl, rfl⟩
  | written _ hclear | executed _ hclear | decoded _ hclear | faulted _ hclear => exact hset hclear

/-- Settles O19: every other outcome keeps the latch clear. -/
theorem onlyUnmodelledBytesSetTheFault : Obligations.OnlyUnmodelledBytesSetTheFault := by
  intro p s t hclear hstep hlatched
  have hkept {P : Prop} (hfault : t.fault = s.fault) : P := by simp [hclear, hlatched] at hfault
  cases stepOutcome_of_stepWith hstep with
  | idle | read | refused => exact hkept rfl
  | reset => cases hlatched
  | written _ _ heffect => exact hkept heffect.fault
  | executed _ _ heffect | decoded _ _ _ heffect =>
    obtain ⟨-, -, hfault, -, -⟩ := heffect.rest
    exact hkept hfault
  | faulted hnext _ hdecode => exact ⟨_, _, _, _, hnext, hdecode, rfl⟩

/-- Settles O20: each transaction has an outcome, and so has an empty list. -/
theorem everyTransactionCompletes : Obligations.EveryTransactionCompletes := by
  intro p s
  obtain ⟨t, hstep, -⟩ := stepWith_outcome p s
  exact ⟨t, hstep⟩

/-- Settles O21: the gate is open, and an instruction leaves the latch and the report alone. -/
theorem everyInstructionSucceeds : Obligations.EveryInstructionSucceeds := by
  intro i s hclear
  obtain ⟨t, hexec, ⟨-, -, hfault, -, hreport⟩, -⟩ := exec_clear hclear i
  exact ⟨t, hexec, hfault.trans hclear, hreport⟩

/-- Settles O22: with the latch set the instruction is refused, with it clear this is its frame. -/
theorem noInstructionWritesPcOrSp : Obligations.NoInstructionWritesPcOrSp := by
  intro i s t hexec
  obtain ⟨u, hgate, ⟨hpc, hsp, hfault, hpending, -⟩, -⟩ := exec_eq_transact i s
  rcases State.transact_cases (hgate.symm.trans hexec) with ⟨-, rfl⟩ | ⟨-, rfl⟩
  · exact ⟨rfl, rfl, rfl, rfl⟩
  · exact ⟨hpc, hsp, hfault, hpending⟩

/-- Settles O23: of the outcomes only the reset, the write of an accessor and the advance of the harness
change PC or SP. -/
theorem whatWritesPcAndSp : Obligations.WhatWritesPcAndSp := by
  intro p s t hstep
  cases stepOutcome_of_stepWith hstep with
  | idle | read | refused | faulted => exact ⟨(absurd rfl ·), (absurd rfl ·)⟩
  | reset hnext => exact ⟨fun _ => .inr (.inr ⟨_, hnext⟩), fun _ => .inr ⟨_, hnext⟩⟩
  | written hnext _ heffect =>
    constructor
    · intro hpc
      obtain rfl := heffect.pc.resolve_left hpc
      exact .inl ⟨_, _, hnext, rfl⟩
    · intro hsp
      obtain rfl := heffect.sp.resolve_left hsp
      exact .inl ⟨_, _, hnext, rfl⟩
  | executed _ _ heffect =>
    obtain ⟨hpc, hsp, -, -, -⟩ := heffect.rest
    exact ⟨(absurd hpc ·), (absurd hsp ·)⟩
  | @decoded _ _ _ _ len _ hnext _ hdecode heffect =>
    obtain ⟨hpc, hsp, -, -, -⟩ := heffect.rest
    have hmoved : t.pc.toNat = (s.pc.toNat + len) % 65536 := by
      simp [hpc, State.advance, BitVec.toNat_add]
    exact ⟨fun _ => .inr (.inl ⟨_, _, _, _, _, hnext, hdecode, hmoved⟩), (absurd hsp ·)⟩

/-- Settles O24: an outcome that keeps the flags is no change, and the others name what wrote them. -/
theorem whatWritesTheFlags : Obligations.WhatWritesTheFlags := by
  intro p s t hstep hchanged
  cases stepOutcome_of_stepWith hstep with
  | idle | read | refused | faulted => exact absurd rfl hchanged
  | reset hnext => exact .inr (.inr (.inr ⟨_, hnext⟩))
  | @written q _ _ hnext _ heffect =>
    have hwrites : accessWritesFlags q = true :=
      Bool.of_not_eq_false fun hkeeps => hchanged (heffect.flags hkeeps)
    exact .inr (.inr (.inl ⟨_, _, hnext, hwrites⟩))
  | @executed i _ _ hnext _ heffect =>
    have hwrites : writesNoFlag i = false :=
      Bool.of_not_eq_true fun hkeeps => hchanged (heffect.flags hkeeps)
    exact .inl ⟨_, _, hnext, hwrites⟩
  | @decoded _ _ _ i _ _ hnext _ hdecode heffect =>
    have hwrites : writesNoFlag i = false :=
      Bool.of_not_eq_true fun hkeeps => hchanged (heffect.flags hkeeps)
    exact .inr (.inl ⟨_, _, _, _, _, hnext, hdecode, hwrites⟩)
end

section
/-! PROOFS. What instructions and transactions depend on (spec/10_state.md sections 1, 2 and 7): an
instruction on two states with the same cells and SP, an accessor and a step on two states that differ in
what is pending, and the statements as uses of these. -/

namespace Sys2Proof.Machine

open Sys2Proof.Claims

/-! ## Flags that are computed or carried over (R26) -/

/-- Each flag of `g'` is that of `g`, or both are carried over from the records `f'` and `f` before. -/
def FlagsFollow (f f' g g' : Flags) : Prop :=
  ∀ x, flagGet g' x = flagGet g x ∨ (flagGet g' x = flagGet f' x ∧ flagGet g x = flagGet f x)

section
variable (f f' : Flags)

theorem FlagsFollow.same (g : Flags) : FlagsFollow f f' g g :=
  fun _ => .inl rfl

theorem FlagsFollow.kept : FlagsFollow f f' f f' :=
  fun _ => .inr ⟨rfl, rfl⟩

/-- A flag that is the same before is the same after. -/
theorem FlagsFollow.flagGet_eq {f f' g g' : Flags} (h : FlagsFollow f f' g g') {x : FlagName}
    (hx : flagGet f' x = flagGet f x) : flagGet g' x = flagGet g x := by
  rcases h x with hsame | ⟨hg', hg⟩
  · exact hsame
  · rw [hg', hx, hg]

theorem flags_eq_of_flagGet {g g' : Flags} (h : ∀ x, flagGet g' x = flagGet g x) : g' = g := by
  obtain ⟨z, n, hh, c⟩ := g
  obtain ⟨z', n', hh', c'⟩ := g'
  exact Flags.mk.injEq .. ▸ ⟨h .z, h .n, h .h, h .c⟩

theorem FlagsFollow.inc (v res : Byte) : FlagsFollow f f' (incFlags f v res) (incFlags f' v res)
  | .z | .n | .h => .inl rfl
  | .c => .inr ⟨rfl, rfl⟩

theorem FlagsFollow.dec (v res : Byte) : FlagsFollow f f' (decFlags f v res) (decFlags f' v res)
  | .z | .n | .h => .inl rfl
  | .c => .inr ⟨rfl, rfl⟩

theorem FlagsFollow.bit (tested : Bool) : FlagsFollow f f' (bitFlags f tested) (bitFlags f' tested)
  | .z | .n | .h => .inl rfl
  | .c => .inr ⟨rfl, rfl⟩

theorem FlagsFollow.addHl (hl v : Word) : FlagsFollow f f' (addHlFlags f hl v) (addHlFlags f' hl v)
  | .z => .inr ⟨rfl, rfl⟩
  | .n | .h | .c => .inl rfl

theorem FlagsFollow.carryOp (carry : Bool) :
    FlagsFollow f f' (carryOpFlags f carry) (carryOpFlags f' carry)
  | .z => .inr ⟨rfl, rfl⟩
  | .n | .h | .c => .inl rfl

theorem FlagsFollow.cpl : FlagsFollow f f' (cplFlags f) (cplFlags f')
  | .z | .c => .inr ⟨rfl, rfl⟩
  | .n | .h => .inl rfl

end

/-! ## An instruction on two states -/

/-- The frame of an instruction, from two states that agree outside the cells and the flags. -/
theorem sameRest_of_sameRest {s s' t t' : State} (hs : SameRest s s') (h : SameRest s t)
    (h' : SameRest s' t') : SameRest t t' := by
  obtain ⟨hpc, hsp, hfault, hpending, hreport⟩ := h
  obtain ⟨hpc', hsp', hfault', hpending', hreport'⟩ := h'
  simpa only [SameRest, hpc, hsp, hfault, hpending, hreport, hpc', hsp', hfault', hpending', hreport']
    using hs

/-- An instruction hands the gate, from `s` and from `s'`, states with the same cells, and flags that are
the same or carried over. -/
def ExecFollows (i : Instr) (s s' : State) : Prop :=
  ∃ t t', exec i s = s.transact t ∧ exec i s' = s'.transact t' ∧
    SameCells t t' ∧ FlagsFollow s.f s'.f t.f t'.f

section
variable {i : Instr} {s s' : State} (cells : SameCells s s')
include cells

theorem sameCells_set8 (r : Reg8) (v : Byte) : SameCells (s.set8 r v) (s'.set8 r v) := by
  intro q
  rw [State.get8_set8, State.get8_set8, cells q]

theorem ExecFollows.of_setFlags {g g' : Flags} (h : exec i s = s.transact (s.setFlags g))
    (h' : exec i s' = s'.transact (s'.setFlags g')) (flags : FlagsFollow s.f s'.f g g') :
    ExecFollows i s s' :=
  ⟨_, _, h, h', fun q => by simpa using cells q, flags⟩

theorem ExecFollows.of_set8 {r : Reg8} {v : Byte} (h : exec i s = s.transact (s.set8 r v))
    (h' : exec i s' = s'.transact (s'.set8 r v)) : ExecFollows i s s' := by
  refine ⟨_, _, h, h', sameCells_set8 cells r v, ?_⟩
  rw [State.set8_f, State.set8_f]
  exact .kept s.f s'.f

theorem ExecFollows.of_set8_setFlags {r : Reg8} {v : Byte} {g g' : Flags}
    (h : exec i s = s.transact ((s.set8 r v).setFlags g))
    (h' : exec i s' = s'.transact ((s'.set8 r v).setFlags g')) (flags : FlagsFollow s.f s'.f g g') :
    ExecFollows i s s' :=
  ⟨_, _, h, h', fun q => by simpa using sameCells_set8 cells r v q, flags⟩

theorem ExecFollows.of_setPair_setFlags {p : Pair} {v : Word} {g g' : Flags}
    (h : exec i s = s.transact ((s.setPair p v).setFlags g))
    (h' : exec i s' = s'.transact ((s'.setPair p v).setFlags g')) (flags : FlagsFollow s.f s'.f g g') :
    ExecFollows i s s' :=
  ⟨_, _, h, h', fun q => by simp [cells q], flags⟩

end

/-- Two states with the same cells and SP differ in the rest only. -/
theorem exists_eq_of_sameCells {s s' : State} (cells : SameCells s s') (hsp : s'.sp = s.sp) :
    ∃ f pc fault pending report, s' =
      { s with f := f, pc := pc, fault := fault, pending := pending, report := report } := by
  refine ⟨s'.f, s'.pc, s'.fault, s'.pending, s'.report, ?_⟩
  exact State.ext_get8 (fun r => by rw [cells r]; cases r <;> rfl) rfl rfl hsp rfl rfl rfl

/-- R26: an instruction reads no flag but the carry, and that only if it is one of the seven. -/
theorem execFollows {i : Instr} {s s' : State} (cells : SameCells s s') (hsp : s'.sp = s.sp)
    (hcarry : readsCarry i = true → s'.f.c = s.f.c) : ExecFollows i s s' := by
  obtain ⟨⟨z, n, h, c⟩, pc, fault, pending, report, rfl⟩ := exists_eq_of_sameCells cells hsp
  cases i with
  | nop | halt => exact ⟨_, _, rfl, rfl, cells, .kept _ _⟩
  | set b r | res b r => exact .of_set8 cells rfl rfl
  | cp r => exact .of_setFlags cells rfl rfl (.same _ _ _)
  | bit b r => exact .of_setFlags cells rfl rfl (.bit _ _ _)
  | scf => exact .of_setFlags cells rfl rfl (.carryOp _ _ _)
  | add r | sub r | and r | or r | xor r => exact .of_set8_setFlags cells rfl rfl (.same _ _ _)
  | rlca | rrca => exact .of_set8_setFlags cells rfl rfl (.same _ _ _)
  | rlc r | rrc r | sla r | sra r | srl r | swap r =>
    exact .of_set8_setFlags cells rfl rfl (.same _ _ _)
  | inc r => exact .of_set8_setFlags cells rfl rfl (.inc _ _ _ _)
  | dec r => exact .of_set8_setFlags cells rfl rfl (.dec _ _ _ _)
  | cpl => exact .of_set8_setFlags cells rfl rfl (.cpl _ _)
  | addHl rr =>
    cases rr <;> exact .of_setPair_setFlags cells rfl rfl (.addHl _ _ _ _)
  | ccf =>
    obtain rfl : c = s.f.c := hcarry rfl
    exact .of_setFlags cells rfl rfl (.carryOp _ _ _)
  | adc r | sbc r | rl r | rr r | rla | rra =>
    obtain rfl : c = s.f.c := hcarry rfl
    exact .of_set8_setFlags cells rfl rfl (.same _ _ _)

/-- The same with the gate open, and with the frame of the instruction. -/
theorem exec_clear_follows {i : Instr} {s s' : State} (cells : SameCells s s') (hsp : s'.sp = s.sp)
    (hcarry : readsCarry i = true → s'.f.c = s.f.c) (hclear : s.fault = false)
    (hclear' : s'.fault = false) :
    ∃ t t', exec i s = .next t ∧ exec i s' = .next t' ∧ SameRest s t ∧ SameRest s' t' ∧
      SameCells t t' ∧ FlagsFollow s.f s'.f t.f t'.f := by
  obtain ⟨t, t', hgate, hgate', hfollows⟩ := execFollows cells hsp hcarry
  rw [State.transact_clear hclear] at hgate
  rw [State.transact_clear hclear'] at hgate'
  obtain ⟨u, hu, heffect⟩ := exec_clear hclear i
  obtain ⟨u', hu', heffect'⟩ := exec_clear hclear' i
  cases hu.symm.trans hgate
  cases hu'.symm.trans hgate'
  exact ⟨t, t', hgate, hgate', heffect.rest, heffect'.rest, hfollows⟩

/-! ## Two states that differ in what is pending -/

/-- What the environment still has pending is all that differs. -/
def Twins (s s' : State) : Prop :=
  ∃ pending, s' = { s with pending := pending }

theorem twins_iff {s s' : State} : Twins s s' ↔ SameCore s s' ∧ s'.report = s.report := by
  constructor
  · rintro ⟨pending, rfl⟩
    exact ⟨⟨fun r => by cases r <;> rfl, rfl, rfl, rfl, rfl⟩, rfl⟩
  · rintro ⟨⟨cells, hf, hpc, hsp, hfault⟩, hreport⟩
    have cells' (r : Reg8) : s'.get8 r = State.get8 { s with pending := s'.pending } r := by
      rw [cells r]
      cases r <;> rfl
    exact ⟨s'.pending, State.ext_get8 cells' hf hpc hsp hfault rfl hreport⟩

/-- Both give a next state, and these are twins again. -/
def TwinOutcomes (o o' : Host.Outcome State Fault Refusal) : Prop :=
  ∃ t t', o = .next t ∧ o' = .next t' ∧ Twins t t'

theorem TwinOutcomes.next {t t' : State} (h : Twins t t') : TwinOutcomes (.next t) (.next t') :=
  ⟨t, t', rfl, rfl, h⟩

section
variable {s s' : State} (twins : Twins s s')
include twins

theorem Twins.fault_eq : s'.fault = s.fault := by
  obtain ⟨pending, rfl⟩ := twins
  rfl

theorem Twins.answer (m : Report) : Twins (s.answer m) (s'.answer m) := by
  obtain ⟨pending, rfl⟩ := twins
  exact ⟨pending, rfl⟩

theorem Twins.set8 (r : Reg8) (v : Byte) : Twins (s.set8 r v) (s'.set8 r v) := by
  obtain ⟨pending, rfl⟩ := twins
  exact ⟨pending, by cases r <;> rfl⟩

theorem Twins.setFlags (g : Flags) : Twins (s.setFlags g) (s'.setFlags g) := by
  obtain ⟨pending, rfl⟩ := twins
  exact ⟨pending, rfl⟩

theorem Twins.setPc (v : Word) : Twins (s.setPc v) (s'.setPc v) := by
  obtain ⟨pending, rfl⟩ := twins
  exact ⟨pending, rfl⟩

theorem Twins.setSp (v : Word) : Twins (s.setSp v) (s'.setSp v) := by
  obtain ⟨pending, rfl⟩ := twins
  exact ⟨pending, rfl⟩

theorem Twins.raiseFault (info : List Byte) : Twins (s.raiseFault info) (s'.raiseFault info) := by
  obtain ⟨pending, rfl⟩ := twins
  exact ⟨pending, rfl⟩

theorem TwinOutcomes.transact {t t' : State} (h : Twins t t') :
    TwinOutcomes (s.transact t) (s'.transact t') := by
  cases hfault : s.fault with
  | true =>
    rw [State.transact_latched hfault, State.transact_latched (twins.fault_eq.trans hfault)]
    exact .next (twins.answer _)
  | false =>
    rw [State.transact_clear hfault, State.transact_clear (twins.fault_eq.trans hfault)]
    exact .next h

theorem twinOutcomes_access (q : Access) : TwinOutcomes (access q s) (access q s') := by
  have ⟨pending, hpending⟩ := twins
  subst hpending
  cases q with
  | get8 r => cases r <;> exact .next (twins.answer _)
  | get16 p => cases p <;> exact .next (twins.answer _)
  | getFlags | getFlag | getFByte | getAf | getPc | getSp => exact .next (twins.answer _)
  | set8 r v => exact .transact twins (twins.set8 r v)
  | setFlags | setFlag | setFByte => exact .transact twins (twins.setFlags _)
  | set16 p v => exact .transact twins ((twins.set8 _ _).set8 _ _)
  | setAf v => exact .transact twins ((twins.set8 .a _).setFlags _)
  | setPc v => exact .transact twins (twins.setPc v)
  | setSp v => exact .transact twins (twins.setSp v)

theorem twinOutcomes_exec (i : Instr) : TwinOutcomes (exec i s) (exec i s') := by
  obtain ⟨⟨cells, hf, hpc, hsp, hfault⟩, hreport⟩ := twins_iff.mp twins
  cases hlatch : s.fault with
  | true =>
    rw [exec_latched hlatch, exec_latched (hfault.trans hlatch)]
    exact .next (twins.answer _)
  | false =>
    obtain ⟨t, t', hexec, hexec', ⟨hpc₁, hsp₁, hfault₁, -, hreport₁⟩,
      ⟨hpc₂, hsp₂, hfault₂, -, hreport₂⟩, cells', flags⟩ :=
      exec_clear_follows (i := i) cells hsp (fun _ => by rw [hf]) hlatch (hfault.trans hlatch)
    refine ⟨t, t', hexec, hexec', twins_iff.mpr ⟨⟨cells', ?_, ?_, ?_, ?_⟩, ?_⟩⟩
    · exact flags_eq_of_flagGet fun x => flags.flagGet_eq (by rw [hf])
    · rw [hpc₂, hpc, hpc₁]
    · rw [hsp₂, hsp, hsp₁]
    · rw [hfault₂, hfault, hfault₁]
    · rw [hreport₂, hreport, hreport₁]

end

/-- Taking the transaction off the list leaves states of the same CORE twins. -/
theorem Twins.of_sameCore_take {s s' : State} (core : SameCore s s') (rest rest' : List Transaction) :
    Twins (s.take rest) (s'.take rest') := by
  obtain ⟨cells, hf, hpc, hsp, hfault⟩ := core
  exact twins_iff.mpr ⟨⟨fun q => by simpa using cells q, hf, hpc, hsp, hfault⟩, rfl⟩

theorem twinOutcomes_harnessTurn {s s' : State} (core : SameCore s s') (bytes : List Byte)
    (rest rest' : List Transaction) :
    TwinOutcomes (harnessTurn bytes rest s) (harnessTurn bytes rest' s') := by
  have ⟨_, _, hpc, _, hfault⟩ := core
  cases hlatch : s.fault with
  | true =>
    rw [harnessTurn_latched hlatch, harnessTurn_latched (hfault.trans hlatch)]
    exact .next ((Twins.of_sameCore_take core rest rest').answer _)
  | false =>
    cases hdecode : decode bytes with
    | modelled i len =>
      rw [harnessTurn_modelled hlatch hdecode,
        harnessTurn_modelled (hfault.trans hlatch) hdecode]
      refine twinOutcomes_exec ?_ i
      rw [State.advance, State.advance, hpc]
      exact (Twins.of_sameCore_take core _ _).setPc _
    | unmodelled info =>
      rw [harnessTurn_unmodelled hlatch hdecode,
        harnessTurn_unmodelled (hfault.trans hlatch) hdecode]
      exact .next ((Twins.of_sameCore_take core rest rest').raiseFault info)

theorem twinOutcomes_stepWith (p : ResetParams) {s s' : State} {x : Transaction}
    {rest rest' : List Transaction} (core : SameCore s s') (hnext : s.pending = x :: rest)
    (hnext' : s'.pending = x :: rest') : TwinOutcomes (stepWith p s) (stepWith p s') := by
  have htaken := Twins.of_sameCore_take core rest rest'
  cases x with
  | reset =>
    rw [stepWith_reset p hnext, stepWith_reset p hnext']
    exact .next ⟨rest', rfl⟩
  | execute i =>
    rw [stepWith_execute p hnext, stepWith_execute p hnext']
    exact twinOutcomes_exec htaken i
  | access q =>
    rw [stepWith_access p hnext, stepWith_access p hnext']
    exact twinOutcomes_access htaken q
  | stream first more =>
    rw [stepWith_stream p hnext, stepWith_stream p hnext']
    exact twinOutcomes_harnessTurn core _ rest rest'

end Sys2Proof.Machine

open Sys2Proof Sys2Proof.Machine Sys2Proof.Claims

/-! ## The statements -/

/-- Settles O25: the carry is the same before, so it is the same after; each of Z, N and H follows. -/
theorem noInstructionReadsZNH : Obligations.NoInstructionReadsZNH := by
  intro i s t z n h hclear hexec
  let g : Flags := { z := z, n := n, h := h, c := s.f.c }
  obtain ⟨t₁, u, ht₁, hu, hrest, hrest', cells, flags⟩ :=
    exec_clear_follows (i := i) (sameCells_setFlags s g) rfl (fun _ => rfl) hclear hclear
  cases ht₁.symm.trans hexec
  exact ⟨u, hu, cells, sameRest_of_sameRest (sameRest_setFlags s g) hrest hrest',
    flags.flagGet_eq (x := .c) rfl, flags .z, flags .n, flags .h⟩

/-- Settles O26: Z, N and H are the same before, so they are the same after; the carry follows. -/
theorem onlySevenInstructionsReadCarry : Obligations.OnlySevenInstructionsReadCarry := by
  intro i s t c hclear hreads hexec
  let g : Flags := { s.f with c := c }
  have hcarry (h : readsCarry i = true) : g.c = s.f.c := by simp [hreads] at h
  obtain ⟨t₁, u, ht₁, hu, hrest, hrest', cells, flags⟩ :=
    exec_clear_follows (sameCells_setFlags s g) rfl hcarry hclear hclear
  cases ht₁.symm.trans hexec
  exact ⟨u, hu, cells, sameRest_of_sameRest (sameRest_setFlags s g) hrest hrest',
    flags.flagGet_eq (x := .z) rfl, flags.flagGet_eq (x := .n) rfl, flags.flagGet_eq (x := .h) rfl,
    flags .c⟩

/-- Settles O27: states of the same CORE are twins once the transaction is taken off the list. -/
theorem noHiddenState : Obligations.NoHiddenState := by
  intro p s s' t x rest rest' core hnext hnext' hstep
  obtain ⟨u, u', hu, hu', htwins⟩ := twinOutcomes_stepWith p core hnext hnext'
  cases hu.symm.trans hstep
  exact ⟨u', hu', twins_iff.mp htwins⟩
end

section
/-! PROOFS. Generic rotates, shifts and swap (spec/44_rotate_shift.md), and the accumulator-only rotates
beside them (spec/45_rotate_a.md R184): the movements over integers, the write-back all share, and the
statements of one execution as uses of these. -/

namespace Sys2Proof.Machine

open Sys2Proof.Claims

/-! ## The shifts and the swap over integers (R164 to R167) -/

theorem shiftLeftIn_false_toNat (v : Byte) : (shiftLeftIn v false).toNat = (v.toNat <<< 1) &&& 0xFF := by
  simp [shiftLeftIn_toNat]

theorem shiftRightIn_false_toNat (v : Byte) : (shiftRightIn v false).toNat = v.toNat >>> 1 := by
  simp [shiftRightIn_toNat]

/-- R165: the bit kept at the top is bit 7 where it stands. -/
theorem shiftRightIn_leftOut_toNat (v : Byte) :
    (shiftRightIn v (leftOut v)).toNat = (v.toNat >>> 1) ||| (v.toNat &&& 0x80) := by
  have hbit : v.toNat &&& 0x80 = bitNum v.toNat 7 <<< 7 := by
    rw [Nat.shiftLeft_eq, bitNum, ← Nat.toNat_testBit]
    exact Nat.and_two_pow v.toNat 7
  rw [shiftRightIn_toNat, leftOut, ite_getLsbD_eq_bitNum, ← hbit]

theorem swapNibbles_toNat (v : Byte) :
    (swapNibbles v).toNat = ((v.toNat &&& 0x0F) <<< 4) ||| (v.toNat >>> 4) := by
  have hnibble : v.toNat &&& 0x0F ≤ 0x0F := Nat.and_le_right
  have hfits : ((v.toNat &&& 0x0F) <<< 4) % 2 ^ 8 = (v.toNat &&& 0x0F) <<< 4 := by
    rw [Nat.shiftLeft_eq]
    omega
  rw [swapNibbles, BitVec.toNat_or, BitVec.toNat_shiftLeft, BitVec.toNat_and,
    BitVec.toNat_ushiftRight]
  exact congrArg (· ||| v.toNat >>> 4) hfits

/-! ## The write-back they share (R168, R169) -/

theorem rotateFlags_z (res : Byte) (departing : Bool) :
    (rotateFlags res departing).z = decide (res.toNat = 0) := by
  simp [rotateFlags, ← BitVec.toNat_inj, beq_eq_decide]

/-- `v` is the result read as an integer and `carry` the departing bit. It takes the operation's arm of
the dispatch as a hypothesis, so that it serves all eight. -/
theorem exec_of_rotate {i : Instr} {r : Reg8} {s : State} {res : Byte} {departing carry : Bool} {v : Nat}
    (hclear : s.fault = false)
    (harm : exec i s = s.transact (s.setRotated r res departing))
    (hres : res.toNat = v) (hcarry : departing = carry) :
    ∃ t, exec i s = .next t ∧
      num t r = v ∧
      t.f.z = decide (num t r = 0) ∧ t.f.n = false ∧ t.f.h = false ∧ t.f.c = carry ∧
      SameCellsBut r s t ∧ SameRest s t := by
  have hnum : num (s.setRotated r res departing) r = res.toNat := num_set8_setFlags s r res _
  refine ⟨_, harm.trans (State.transact_clear hclear _), hnum.trans hres, ?_, rfl, rfl, hcarry,
    sameCellsBut_set8_setFlags s r res _, sameRest_set8_setFlags s r res _⟩
  rw [hnum]
  exact rotateFlags_z res departing

/-- R184: the same result written back by the accumulator-only form and by the generic one. -/
theorem exec_of_rotate_pair {short generic : Instr} {s : State} {res : Byte} {departing : Bool}
    (hclear : s.fault = false)
    (hshort : exec short s = s.transact (s.setRotatedA res departing))
    (hgeneric : exec generic s = s.transact (s.setRotated .a res departing)) :
    ∃ t u, exec short s = .next t ∧ exec generic s = .next u ∧
      SameCells t u ∧ SameRest t u ∧ u.f.c = t.f.c ∧ u.f.n = t.f.n ∧ u.f.h = t.f.h ∧
      t.f.z = false ∧ u.f.z = decide (num t .a = 0) :=
  ⟨_, _, hshort.trans (State.transact_clear hclear _), hgeneric.trans (State.transact_clear hclear _),
    fun q => by simp, ⟨rfl, rfl, rfl, rfl, rfl⟩, rfl, rfl, rfl, rfl, rotateFlags_z res departing⟩

end Sys2Proof.Machine

open Sys2Proof Sys2Proof.Machine Sys2Proof.Claims

/-! ## The statements -/

/-- Settles O41: the bit that enters is the one that leaves. -/
theorem rotateCircular : Obligations.RotateCircular := by
  intro r s hclear
  let v := s.get8 r
  exact ⟨exec_of_rotate hclear rfl (shiftLeftIn_leftOut_toNat v) (getLsbD_eq_bitNum v 7),
    exec_of_rotate hclear rfl (shiftRightIn_rightOut_toNat v) (getLsbD_eq_bitNum v 0)⟩

/-- Settles O42: the bit that enters is the carry of the state before. -/
theorem rotateThroughCarry : Obligations.RotateThroughCarry := by
  intro r s hclear
  let v := s.get8 r
  exact ⟨exec_of_rotate hclear rfl (shiftLeftIn_toNat v s.f.c) (getLsbD_eq_bitNum v 7),
    exec_of_rotate hclear rfl (shiftRightIn_toNat v s.f.c) (getLsbD_eq_bitNum v 0)⟩

/-- Settles O43: a zero enters, but for SRA, where bit 7 enters and stays. -/
theorem shiftRegister : Obligations.ShiftRegister := by
  intro r s hclear
  let v := s.get8 r
  exact ⟨exec_of_rotate hclear rfl (shiftLeftIn_false_toNat v) (getLsbD_eq_bitNum v 7),
    exec_of_rotate hclear rfl (shiftRightIn_leftOut_toNat v) (getLsbD_eq_bitNum v 0),
    exec_of_rotate hclear rfl (shiftRightIn_false_toNat v) (getLsbD_eq_bitNum v 0)⟩

/-- Settles O44: no bit departs. -/
theorem swapNibblesOfRegister : Obligations.SwapNibblesOfRegister :=
  fun r s hclear => exec_of_rotate hclear rfl (swapNibbles_toNat (s.get8 r)) rfl

/-- Settles O48: each pair writes back one and the same result. -/
theorem accumulatorRotatesDifferOnlyInZero : Obligations.AccumulatorRotatesDifferOnlyInZero := by
  intro s short generic hclear hpair
  simp only [List.mem_cons, Prod.mk.injEq, List.not_mem_nil, or_false] at hpair
  rcases hpair with ⟨rfl, rfl⟩ | ⟨rfl, rfl⟩ | ⟨rfl, rfl⟩ | ⟨rfl, rfl⟩ <;>
    exact exec_of_rotate_pair hclear rfl rfl
end

section
/-! PROOFS. The laws of the rotates and shifts (spec/44_rotate_shift.md R170). A rotate turns a circle of
bits by one place, of the eight bits of the cell or of these and the carry; what repeated and opposite
rotates restore is then arithmetic on the places. -/

namespace Sys2Proof.Machine

open Sys2Proof.Claims

/-! ## Maps that turn a circle of bits -/

/-- `f` turns the circle of bits by the distance `d`. -/
def Turns {α G : Type} [Add G] (bits : α → G → Bool) (f : α → α) (d : G) : Prop :=
  ∀ x k, bits (f x) k = bits x (k + d)

section
variable {α G : Type} [AddCommGroup G] {bits : α → G → Bool} {f g : α → α} {d : G}

theorem Turns.iterate (hf : Turns bits f d) (m : Nat) : Turns bits f^[m] (m • d) := by
  induction m with
  | zero => intro x k; simp
  | succ m ih =>
    intro x k
    rw [Function.iterate_succ_apply, ih, hf, succ_nsmul, add_assoc]

/-- As many turns as the circle has places restore it. -/
theorem Turns.iterate_card [Fintype G] (hinj : Function.Injective bits) (hf : Turns bits f d) (x : α) :
    f^[Fintype.card G] x = x := by
  apply hinj
  funext k
  rw [hf.iterate, card_nsmul_eq_zero, add_zero]

/-- Opposite turns restore the circle. -/
theorem Turns.opposite (hinj : Function.Injective bits) (hf : Turns bits f d) (hg : Turns bits g (-d))
    (x : α) : g (f x) = x := by
  apply hinj
  funext k
  rw [hg, hf, neg_add_cancel_right]

end

/-! ## The circles of the rotates (R160 to R163) -/

theorem getLsbD_shiftLeftIn (v : Byte) (low : Bool) {i : Nat} (hi : i < 8) :
    (shiftLeftIn v low).getLsbD i = if i = 0 then low else v.getLsbD (i - 1) := by
  cases low <;> interval_cases i <;> simp [shiftLeftIn, bitByte]

theorem getLsbD_shiftRightIn (v : Byte) (high : Bool) {i : Nat} (hi : i < 8) :
    (shiftRightIn v high).getLsbD i = if i = 7 then high else v.getLsbD (i + 1) := by
  cases high <;> interval_cases i <;> simp [shiftRightIn, bitByte]

/-- The eight bits of a cell in a circle. -/
def cellCircle (v : Byte) (k : Fin 8) : Bool := v.getLsbD k.val

/-- The eight bits of a cell and the carry in a circle, the carry in place 8. -/
def carryCircle (x : Byte × Bool) (k : Fin 9) : Bool :=
  if k.val < 8 then x.1.getLsbD k.val else x.2

theorem cellCircle_injective : Function.Injective cellCircle := by
  intro v w h
  exact BitVec.eq_of_getLsbD_eq fun i hi => congrFun h ⟨i, hi⟩

theorem carryCircle_injective : Function.Injective carryCircle := by
  rintro ⟨v, c⟩ ⟨w, d⟩ h
  have hcell : v = w := BitVec.eq_of_getLsbD_eq fun i hi => by
    simpa [carryCircle, hi] using congrFun h ⟨i, by omega⟩
  have hcarry : c = d := congrFun h 8
  rw [hcell, hcarry]

/-- RLC on the cell. -/
def rlcStep (v : Byte) : Byte := shiftLeftIn v (leftOut v)

/-- RRC on the cell. -/
def rrcStep (v : Byte) : Byte := shiftRightIn v (rightOut v)

/-- RL on the cell and the carry. -/
def rlStep (x : Byte × Bool) : Byte × Bool := (shiftLeftIn x.1 x.2, leftOut x.1)

/-- RR on the cell and the carry. -/
def rrStep (x : Byte × Bool) : Byte × Bool := (shiftRightIn x.1 x.2, rightOut x.1)

theorem turns_rlcStep : Turns cellCircle rlcStep (-1) := by
  intro v k
  rw [cellCircle, rlcStep, getLsbD_shiftLeftIn v _ k.isLt]
  fin_cases k <;> rfl

theorem turns_rrcStep : Turns cellCircle rrcStep 1 := by
  intro v k
  rw [cellCircle, rrcStep, getLsbD_shiftRightIn v _ k.isLt]
  fin_cases k <;> rfl

theorem turns_rlStep : Turns carryCircle rlStep (-1) := by
  rintro ⟨v, c⟩ k
  have hplace : carryCircle (rlStep (v, c)) k =
      if k.val < 8 then if k.val = 0 then c else v.getLsbD (k.val - 1) else leftOut v :=
    ite_congr rfl (getLsbD_shiftLeftIn v c) fun _ => rfl
  rw [hplace]
  fin_cases k <;> rfl

theorem turns_rrStep : Turns carryCircle rrStep 1 := by
  rintro ⟨v, c⟩ k
  have hplace : carryCircle (rrStep (v, c)) k =
      if k.val < 8 then if k.val = 7 then c else v.getLsbD (k.val + 1) else rightOut v :=
    ite_congr rfl (getLsbD_shiftRightIn v c) fun _ => rfl
  rw [hplace]
  fin_cases k <;> rfl

theorem swapNibbles_swapNibbles (v : Byte) : swapNibbles (swapNibbles v) = v := by
  apply BitVec.eq_of_getLsbD_eq
  intro i hi
  interval_cases i <;> simp [swapNibbles]

/-! ## Runs of instructions -/

section
variable {i : Instr} {is : List Instr} {s t : State} {P : State → Prop}

theorem reaches_nil (h : P s) : Reaches [] s P :=
  ⟨s, rfl, h⟩

theorem reaches_cons (hexec : exec i s = .next t) (h : Reaches is t P) : Reaches (i :: is) s P := by
  obtain ⟨u, hrun, hu⟩ := h
  refine ⟨u, ?_, hu⟩
  rw [runAll, hexec]
  exact hrun

end

/-- On what `view` shows of the state, `i` acts as `f`, and it keeps the latch clear. -/
def ActsAs {α : Type} (i : Instr) (view : State → α) (f : α → α) : Prop :=
  ∀ s, s.fault = false → ∃ t, exec i s = .next t ∧ t.fault = false ∧ view t = f (view s)

section
variable {α : Type} {i j : Instr} {view : State → α} {f g : α → α} {s : State}

theorem ActsAs.reaches_replicate (hi : ActsAs i view f) (m : Nat) (hclear : s.fault = false) :
    Reaches (List.replicate m i) s (fun t => view t = f^[m] (view s)) := by
  induction m generalizing s with
  | zero => exact reaches_nil rfl
  | succ m ih =>
    obtain ⟨t, hexec, hclear', hview⟩ := hi s hclear
    have hrest := ih hclear'
    rw [hview] at hrest
    exact reaches_cons hexec hrest

theorem ActsAs.reaches_pair (hi : ActsAs i view f) (hj : ActsAs j view g) (hclear : s.fault = false) :
    Reaches [i, j] s (fun t => view t = g (f (view s))) := by
  obtain ⟨t, hexec, hclear', hview⟩ := hi s hclear
  obtain ⟨u, hexec', -, hview'⟩ := hj t hclear'
  exact reaches_cons hexec (reaches_cons hexec' (reaches_nil (hview'.trans (congrArg g hview))))

/-- Instructions that undo each other restore what they show of the state. -/
theorem ActsAs.reaches_restored (hi : ActsAs i view f) (hj : ActsAs j view g) (hgf : ∀ x, g (f x) = x)
    (hclear : s.fault = false) : Reaches [i, j] s (fun t => view t = view s) := by
  have hpair := hi.reaches_pair hj hclear
  rwa [hgf] at hpair

/-- A turn, repeated once for each place of its circle, restores what it shows of the state. -/
theorem ActsAs.reaches_turned {G : Type} [AddCommGroup G] [Fintype G] {bits : α → G → Bool} {d : G}
    (hi : ActsAs i view f) (hinj : Function.Injective bits) (hf : Turns bits f d)
    (hclear : s.fault = false) :
    Reaches (List.replicate (Fintype.card G) i) s (fun t => view t = view s) := by
  have hturned := hi.reaches_replicate (Fintype.card G) hclear
  rwa [hf.iterate_card hinj] at hturned

end

/-- The cell and the carry. -/
def cellAndCarry (r : Reg8) (s : State) : Byte × Bool := (s.get8 r, s.f.c)

section
variable {i : Instr} {r : Reg8}

theorem get8_setRotated_self (s : State) (r : Reg8) (v : Byte) (departing : Bool) :
    (s.setRotated r v departing).get8 r = v := by
  simp

theorem actsAs_on_cell {f : Byte → Byte} {departing : State → Bool}
    (harm : ∀ s, exec i s = s.transact (s.setRotated r (f (s.get8 r)) (departing s))) :
    ActsAs i (State.get8 · r) f :=
  fun s hclear => ⟨_, (harm s).trans (State.transact_clear hclear _), by simpa using hclear,
    get8_setRotated_self s r _ _⟩

theorem actsAs_on_cellAndCarry {f : Byte × Bool → Byte × Bool}
    (harm : ∀ s, exec i s =
      s.transact (s.setRotated r (f (cellAndCarry r s)).1 (f (cellAndCarry r s)).2)) :
    ActsAs i (cellAndCarry r) f :=
  fun s hclear =>
    ⟨_, (harm s).trans (State.transact_clear hclear _), by simpa using hclear,
      Prod.ext (get8_setRotated_self s r _ _) rfl⟩

/-- Restoring the pair is restoring both. -/
theorem reaches_of_cellAndCarry {is : List Instr} {s : State}
    (h : Reaches is s (fun t => cellAndCarry r t = cellAndCarry r s)) :
    Reaches is s (fun t => t.get8 r = s.get8 r ∧ t.f.c = s.f.c) := by
  obtain ⟨t, hrun, ht⟩ := h
  exact ⟨t, hrun, Prod.mk.inj ht⟩

end

section
variable (r : Reg8)

theorem actsAs_rlc : ActsAs (.rlc r) (State.get8 · r) rlcStep :=
  actsAs_on_cell (departing := fun s => leftOut (s.get8 r)) fun _ => rfl

theorem actsAs_rrc : ActsAs (.rrc r) (State.get8 · r) rrcStep :=
  actsAs_on_cell (departing := fun s => rightOut (s.get8 r)) fun _ => rfl

theorem actsAs_swap : ActsAs (.swap r) (State.get8 · r) swapNibbles :=
  actsAs_on_cell (departing := fun _ => false) fun _ => rfl

theorem actsAs_rl : ActsAs (.rl r) (cellAndCarry r) rlStep :=
  actsAs_on_cellAndCarry fun _ => rfl

theorem actsAs_rr : ActsAs (.rr r) (cellAndCarry r) rrStep :=
  actsAs_on_cellAndCarry fun _ => rfl

end

/-! ## The shifts as operations on integers -/

section
variable (r : Reg8) {s : State} (hclear : s.fault = false)
include hclear

theorem reaches_sla : Reaches [.sla r] s (fun t => num t r = num s r * 2 % 256) := by
  obtain ⟨⟨t, hexec, hnum, -⟩, -, -⟩ := shiftRegister r s hclear
  refine reaches_cons hexec (reaches_nil (hnum.trans ?_))
  rw [Nat.shiftLeft_eq]
  exact Nat.and_two_pow_sub_one_eq_mod _ 8

theorem reaches_srl : Reaches [.srl r] s (fun t => num t r = num s r / 2) := by
  obtain ⟨-, -, t, hexec, hnum, -⟩ := shiftRegister r s hclear
  exact reaches_cons hexec (reaches_nil (hnum.trans (Nat.shiftRight_eq_div_pow _ 1)))

/-- Bit 7 is kept, and its copy goes to bit 6. -/
theorem reaches_sra : Reaches [.sra r] s (fun t => bitNum (num t r) 7 = bitNum (num s r) 7 ∧
    bitNum (num t r) 6 = bitNum (num s r) 7) := by
  have hexec : exec (.sra r) s = .next _ := State.transact_clear hclear _
  refine reaches_cons hexec (reaches_nil ?_)
  simp only [num, State.get8_setRotated, if_true, ← ite_getLsbD_eq_bitNum,
    getLsbD_shiftRightIn _ _ (by decide : 7 < 8), getLsbD_shiftRightIn _ _ (by decide : 6 < 8)]
  exact ⟨rfl, rfl⟩

end

end Sys2Proof.Machine

open Sys2Proof Sys2Proof.Machine Sys2Proof.Claims

/-! ## The statement -/

/-- Settles O45: the rotates are turns of circles of eight and of nine places, in opposite directions. -/
theorem rotateAndShiftLaws : Obligations.RotateAndShiftLaws := by
  intro r s hclear
  have hrlc := actsAs_rlc r
  have hrrc := actsAs_rrc r
  have hrl := actsAs_rl r
  have hrr := actsAs_rr r
  refine ⟨?_, ?_, ?_, ?_, ?_, ?_, ?_, reaches_sla r hclear, reaches_srl r hclear, reaches_sra r hclear⟩
  · exact hrlc.reaches_turned cellCircle_injective turns_rlcStep hclear
  · exact hrrc.reaches_turned cellCircle_injective turns_rrcStep hclear
  · exact reaches_of_cellAndCarry (hrl.reaches_turned carryCircle_injective turns_rlStep hclear)
  · exact reaches_of_cellAndCarry (hrr.reaches_turned carryCircle_injective turns_rrStep hclear)
  · exact hrlc.reaches_restored hrrc (turns_rlcStep.opposite cellCircle_injective turns_rrcStep) hclear
  · exact reaches_of_cellAndCarry
      (hrl.reaches_restored hrr (turns_rlStep.opposite carryCircle_injective turns_rrStep) hclear)
  · exact (actsAs_swap r).reaches_restored (actsAs_swap r) swapNibbles_swapNibbles hclear
end

section
/-! PROOFS. The laws of SET, RES and BIT (spec/46_bit_ops.md R194): the two masks bit by bit, the run of
instructions that rewrite one cell, and the statement as a use of these. -/

namespace Sys2Proof.Machine

open Sys2Proof.Claims

/-! ## The two masks bit by bit (R191, R192) -/

/-- SET on the cell. -/
def setBit (b : BitIndex) (v : Byte) : Byte := v ||| bitMask b

/-- RES on the cell. -/
def resetBit (b : BitIndex) (v : Byte) : Byte := v &&& (0xFF#8 ^^^ bitMask b)

theorem bitOf_bitMask (b d : BitIndex) : bitOf (bitMask b) d = decide (b = d) := by
  simp [bitOf, bitMask, ← BitVec.twoPow_eq, Fin.ext_iff, eq_comm]

theorem bitOf_setBit (b d : BitIndex) (v : Byte) : bitOf (setBit b v) d = (bitOf v d || decide (b = d)) := by
  rw [← bitOf_bitMask]
  exact BitVec.getLsbD_or

theorem bitOf_resetBit (b d : BitIndex) (v : Byte) :
    bitOf (resetBit b v) d = (bitOf v d && !decide (b = d)) := by
  have hones : (0xFF#8).getLsbD d = true := by revert d; decide
  rw [← bitOf_bitMask, bitOf, resetBit, BitVec.getLsbD_and, BitVec.getLsbD_xor, hones, Bool.true_xor]
  rfl

theorem eq_of_bitOf {v w : Byte} (h : ∀ d, bitOf v d = bitOf w d) : v = w :=
  BitVec.eq_of_getLsbD_eq fun i hi => h ⟨i, hi⟩

section
variable (b d : BitIndex) (v : Byte)

theorem setBit_setBit_self : setBit b (setBit b v) = setBit b v := by
  rw [setBit, setBit, BitVec.or_assoc, BitVec.or_self]

theorem resetBit_resetBit_self : resetBit b (resetBit b v) = resetBit b v := by
  rw [resetBit, resetBit, BitVec.and_assoc, BitVec.and_self]

theorem setBit_comm : setBit d (setBit b v) = setBit b (setBit d v) := by
  simp only [setBit, BitVec.or_assoc, BitVec.or_comm (bitMask b)]

theorem resetBit_comm : resetBit d (resetBit b v) = resetBit b (resetBit d v) := by
  simp only [resetBit, BitVec.and_assoc, BitVec.and_comm (0xFF#8 ^^^ bitMask b)]

/-- Only on one and the same bit does the order of SET and RES matter. -/
theorem resetBit_setBit {b d : BitIndex} (hne : b ≠ d) (v : Byte) :
    resetBit d (setBit b v) = setBit b (resetBit d v) := by
  apply eq_of_bitOf
  intro k
  simp only [bitOf_resetBit, bitOf_setBit]
  by_cases hb : b = k
  · have hd : d ≠ k := fun hd => hne (hb.trans hd.symm)
    simp [hb, hd]
  · simp [hb]

end

/-! ## Runs of instructions that rewrite one cell -/

theorem set8_set8_self (s : State) (r : Reg8) (v w : Byte) : (s.set8 r v).set8 r w = s.set8 r w := by
  cases r <;> rfl

/-- `i` rewrites the cell `r` by `f` and does nothing else. -/
def RewritesCell (i : Instr) (r : Reg8) (f : Byte → Byte) : Prop :=
  ∀ s, exec i s = s.transact (s.set8 r (f (s.get8 r)))

theorem rewritesCell_set (b : BitIndex) (r : Reg8) : RewritesCell (.set b r) r (setBit b) :=
  fun _ => rfl

theorem rewritesCell_res (b : BitIndex) (r : Reg8) : RewritesCell (.res b r) r (resetBit b) :=
  fun _ => rfl

section
variable {i j : Instr} {r : Reg8} {f g : Byte → Byte} {s : State} (hi : RewritesCell i r f)
  (hclear : s.fault = false)
include hi hclear

theorem RewritesCell.exec_clear : exec i s = .next (s.set8 r (f (s.get8 r))) :=
  (hi s).trans (State.transact_clear hclear _)

theorem RewritesCell.runAll_single : runAll [i] s = .next (s.set8 r (f (s.get8 r))) := by
  simp only [runAll, hi.exec_clear hclear]

theorem RewritesCell.runAll_pair (hj : RewritesCell j r g) :
    runAll [i, j] s = .next (s.set8 r (g (f (s.get8 r)))) := by
  have hclear' : (s.set8 r (f (s.get8 r))).fault = false := by simpa using hclear
  simp only [runAll, hi.exec_clear hclear, hj.exec_clear hclear', State.get8_set8_self, set8_set8_self]

/-- BIT finds what the instruction before it wrote. -/
theorem RewritesCell.reaches_bit (b : BitIndex) :
    Reaches [i, .bit b r] s (fun t => t.f.z = !bitOf (f (s.get8 r)) b) := by
  have hclear' : (s.set8 r (f (s.get8 r))).fault = false := by simpa using hclear
  have hbit : exec (.bit b r) (s.set8 r (f (s.get8 r))) = .next _ := State.transact_clear hclear' _
  refine reaches_cons (hi.exec_clear hclear) (reaches_cons hbit (reaches_nil ?_))
  simp [bitFlags]

end

end Sys2Proof.Machine

open Sys2Proof Sys2Proof.Machine Sys2Proof.Claims

/-! ## The statement -/

/-- Settles O51: each law is one of the two masks on a byte. -/
theorem bitOperationLaws : Obligations.BitOperationLaws := by
  intro b d r s hclear
  have hset := rewritesCell_set (r := r)
  have hres := rewritesCell_res (r := r)
  refine ⟨?_, ?_, ?_, ?_, fun hne => ?_, ?_, ?_⟩
  · simpa [bitOf_setBit] using (hset b).reaches_bit hclear b
  · simpa [bitOf_resetBit] using (hres b).reaches_bit hclear b
  · rw [(hset b).runAll_pair hclear (hset b), (hset b).runAll_single hclear, setBit_setBit_self]
  · rw [(hres b).runAll_pair hclear (hres b), (hres b).runAll_single hclear, resetBit_resetBit_self]
  · rw [(hset b).runAll_pair hclear (hres d), (hres d).runAll_pair hclear (hset b), resetBit_setBit hne]
  · rw [(hset b).runAll_pair hclear (hset d), (hset d).runAll_pair hclear (hset b), setBit_comm]
  · rw [(hres b).runAll_pair hclear (hres d), (hres d).runAll_pair hclear (hres b), resetBit_comm]
end

section
/-! PROOFS. HALT (spec/47_nop_halt.md R201) and the accessors of the packed flag byte (spec/10_state.md
R42): the bytes of a joined word, and the statements as uses of the rule of the gate. -/

namespace Sys2Proof.Machine

open Sys2Proof.Claims

theorem hiByte_joinBytes (hi lo : Byte) : hiByte (joinBytes hi lo) = hi :=
  BitVec.extractLsb'_append_eq_left

theorem loByte_joinBytes (hi lo : Byte) : loByte (joinBytes hi lo) = lo :=
  BitVec.extractLsb'_append_eq_right

/-- The low byte of AF is the packed flag byte, in the statement's arithmetic. -/
theorem ofNat_getAf_mod (s : State) : BitVec.ofNat 8 (s.getAf.toNat % 256) = flagsToByte s.f := by
  rw [← loByte_toNat, BitVec.ofNat_toNat, BitVec.setWidth_eq]
  exact loByte_joinBytes s.a (flagsToByte s.f)

/-- Writing AF with A as it is writes the flags alone. -/
theorem setAf_joinBytes_a (s : State) (b : Byte) :
    s.setAf (joinBytes s.a b) = s.setFlags (flagsOfByte b) := by
  rw [State.setAf, hiByte_joinBytes, loByte_joinBytes]
  rfl

end Sys2Proof.Machine

open Sys2Proof Sys2Proof.Machine Sys2Proof.Claims

/-! ## The statements -/

/-- Settles O53: HALT hands the gate the state itself, and a clear latch lets it through. -/
theorem haltIsTheIdentity : Obligations.HaltIsTheIdentity := by
  intro s hclear
  have harm : exec .halt s = s.transact s := rfl
  exact harm.trans (State.transact_clear hclear s)

/-- Settles O57: the packed flag byte is the low byte of the word that AF joins. -/
theorem packedFlagByteAccessors : Obligations.PackedFlagByteAccessors := by
  refine ⟨fun s => ⟨s.getAf, rfl, ?_⟩, fun b s hclear => ⟨State.transact_clear hclear _, ?_⟩⟩
  · rw [ofNat_getAf_mod]
    rfl
  · have hword : BitVec.ofNat 16 (num s .a * 256 + b.toNat) = joinBytes s.a b := by
      rw [num, State.get8_a, ← joinBytes_toNat, BitVec.ofNat_toNat, BitVec.setWidth_eq]
    rw [hword]
    exact congrArg s.transact (setAf_joinBytes_a s b).symm
end
